-- ==== Sys2Proof/Word.lean ====
section
/-! DEFINITION. The two word types of the core (00_scope.md R12): `u8` and `u16`. -/

namespace Sys2Proof

/-- `u8`: an 8-bit unsigned value (R12). -/
abbrev Byte := BitVec 8

/-- `u16`: a 16-bit unsigned value (R12); addresses and the program counter. -/
abbrev Word := BitVec 16

end Sys2Proof
end

