-- ==== Sys2Proof/Config.lean ====
section
/-! DEFINITION. What is fixed for this hardware: the fixed parameters of 00_scope.md R9 and the TYPES of the named
parameters of R10. The values this hardware gives the named parameters are in Machine/Params.lean. The spec leaves no
result of an instruction open, so there is no free value here. -/

namespace Sys2Proof

/-- R10, D8: what a 16-bit address step without an explicit wrap does when it leaves 0..0xFFFF. -/
inductive AddressWrapPolicy where
  /-- the result is taken modulo 65536 (R90) -/
  | wrap
  /-- `Fault(AddressOverflow)` (R90) -/
  | fault
deriving DecidableEq, Repr

/-- R10, D3: the Negative flag of CMP, CPX and CPY (R142). -/
inductive CompareNegativeRule where
  /-- N is set iff register < operand, unsigned -/
  | literal
  /-- N is bit 7 of register -8 operand -/
  | nmos
deriving DecidableEq, Repr

namespace Config

/-- R9: the stack page's base; a stack byte is at `0x0100 + S`. -/
def stackPage : Word := 0x0100#16

/-- R9, R197, R198: the value `new` and `reset` give S. -/
def stackReset : Byte := 0xFD#8

/-- R9, R199: the address of the low byte of the little-endian reset vector. -/
def resetVector : Word := 0xFFFC#16

/-- R9, R200: where `load` puts a program image, and the value it writes to the reset vector. -/
def loadBase : Word := 0x8000#16

/-- R9, R200: the largest program image, in bytes. -/
def maxImage : Nat := 0x8000

end Config

end Sys2Proof
end

