-- ==== Sys2Proof/Syntax.lean ====
section
/-! DEFINITION. The instructions as data. `Instr` has one constructor per row of spec/opcode_table.json: an opcode is "an
8-bit value identifying one instruction variant" (00_scope.md R17), and a variant is a mnemonic in one addressing mode.
The operand bytes are no part of a variant: the resolver reads them from memory at PC while the instruction executes
(20_memory.md R62, 40_execution_loop.md R96). `Code` is a variant together with its operand bytes, as it stands in a
program image (30_encoding.md R65). -/

namespace Sys2Proof

/-- 30_encoding.md R70: the closed set of 13 addressing modes. -/
inductive AddressingMode where
  | accumulator | immediate
  | zeroPage | zeroPageX | zeroPageY
  | absolute | absoluteX | absoluteY
  | indirect | indirectX | indirectY
  | relative
  | noneAddressing
deriving DecidableEq, Repr

/-- 00_scope.md R3: the 56 mnemonics. -/
inductive Mnemonic where
  | lda | ldx | ldy | sta | stx | sty | tax | tay | txa | tya | tsx | txs | adc | sbc
  | and | ora | eor | asl | lsr | rol | ror | cmp | cpx | cpy | inc | inx | iny | dec
  | dex | dey | bit | bcc | bcs | beq | bne | bmi | bpl | bvc | bvs | jmp | jsr | rts
  | pha | pla | php | plp | rti | sec | clc | sed | cld | sei | cli | clv | nop | brk
deriving DecidableEq, Repr

/-- 30_encoding.md R76, R77: the 151 instruction variants, one per row of spec/opcode_table.json. The name is the
mnemonic followed by the addressing mode, which is left out where the mnemonic has one mode only. -/
inductive Instr where
  | ldaImmediate | ldaZeroPage | ldaZeroPageX | ldaAbsolute | ldaAbsoluteX | ldaAbsoluteY | ldaIndirectX | ldaIndirectY
  | ldxImmediate | ldxZeroPage | ldxZeroPageY | ldxAbsolute | ldxAbsoluteY
  | ldyImmediate | ldyZeroPage | ldyZeroPageX | ldyAbsolute | ldyAbsoluteX
  | staZeroPage | staZeroPageX | staAbsolute | staAbsoluteX | staAbsoluteY | staIndirectX | staIndirectY
  | stxZeroPage | stxZeroPageY | stxAbsolute
  | styZeroPage | styZeroPageX | styAbsolute
  | tax
  | tay
  | txa
  | tya
  | tsx
  | txs
  | adcImmediate | adcZeroPage | adcZeroPageX | adcAbsolute | adcAbsoluteX | adcAbsoluteY | adcIndirectX | adcIndirectY
  | sbcImmediate | sbcZeroPage | sbcZeroPageX | sbcAbsolute | sbcAbsoluteX | sbcAbsoluteY | sbcIndirectX | sbcIndirectY
  | andImmediate | andZeroPage | andZeroPageX | andAbsolute | andAbsoluteX | andAbsoluteY | andIndirectX | andIndirectY
  | oraImmediate | oraZeroPage | oraZeroPageX | oraAbsolute | oraAbsoluteX | oraAbsoluteY | oraIndirectX | oraIndirectY
  | eorImmediate | eorZeroPage | eorZeroPageX | eorAbsolute | eorAbsoluteX | eorAbsoluteY | eorIndirectX | eorIndirectY
  | aslAccumulator | aslZeroPage | aslZeroPageX | aslAbsolute | aslAbsoluteX
  | lsrAccumulator | lsrZeroPage | lsrZeroPageX | lsrAbsolute | lsrAbsoluteX
  | rolAccumulator | rolZeroPage | rolZeroPageX | rolAbsolute | rolAbsoluteX
  | rorAccumulator | rorZeroPage | rorZeroPageX | rorAbsolute | rorAbsoluteX
  | cmpImmediate | cmpZeroPage | cmpZeroPageX | cmpAbsolute | cmpAbsoluteX | cmpAbsoluteY | cmpIndirectX | cmpIndirectY
  | cpxImmediate | cpxZeroPage | cpxAbsolute
  | cpyImmediate | cpyZeroPage | cpyAbsolute
  | incZeroPage | incZeroPageX | incAbsolute | incAbsoluteX
  | inx
  | iny
  | decZeroPage | decZeroPageX | decAbsolute | decAbsoluteX
  | dex
  | dey
  | bitZeroPage | bitAbsolute
  | bcc
  | bcs
  | beq
  | bne
  | bmi
  | bpl
  | bvc
  | bvs
  | jmpAbsolute | jmpIndirect
  | jsr
  | rts
  | pha
  | pla
  | php
  | plp
  | rti
  | sec
  | clc
  | sed
  | cld
  | sei
  | cli
  | clv
  | nop
  | brk
deriving DecidableEq, Repr

/-- A variant and its operand bytes in address order: what stands in a program image (R65, R67). -/
structure Code where
  instr : Instr
  operands : List Byte
deriving DecidableEq, Repr

/-- 30_encoding.md R74: the mnemonic selects the instruction's rule. -/
def Instr.mnemonic : Instr → Mnemonic
  | .ldaImmediate | .ldaZeroPage | .ldaZeroPageX | .ldaAbsolute | .ldaAbsoluteX | .ldaAbsoluteY
  | .ldaIndirectX | .ldaIndirectY => .lda
  | .ldxImmediate | .ldxZeroPage | .ldxZeroPageY | .ldxAbsolute | .ldxAbsoluteY => .ldx
  | .ldyImmediate | .ldyZeroPage | .ldyZeroPageX | .ldyAbsolute | .ldyAbsoluteX => .ldy
  | .staZeroPage | .staZeroPageX | .staAbsolute | .staAbsoluteX | .staAbsoluteY | .staIndirectX
  | .staIndirectY => .sta
  | .stxZeroPage | .stxZeroPageY | .stxAbsolute => .stx
  | .styZeroPage | .styZeroPageX | .styAbsolute => .sty
  | .tax => .tax
  | .tay => .tay
  | .txa => .txa
  | .tya => .tya
  | .tsx => .tsx
  | .txs => .txs
  | .adcImmediate | .adcZeroPage | .adcZeroPageX | .adcAbsolute | .adcAbsoluteX | .adcAbsoluteY
  | .adcIndirectX | .adcIndirectY => .adc
  | .sbcImmediate | .sbcZeroPage | .sbcZeroPageX | .sbcAbsolute | .sbcAbsoluteX | .sbcAbsoluteY
  | .sbcIndirectX | .sbcIndirectY => .sbc
  | .andImmediate | .andZeroPage | .andZeroPageX | .andAbsolute | .andAbsoluteX | .andAbsoluteY
  | .andIndirectX | .andIndirectY => .and
  | .oraImmediate | .oraZeroPage | .oraZeroPageX | .oraAbsolute | .oraAbsoluteX | .oraAbsoluteY
  | .oraIndirectX | .oraIndirectY => .ora
  | .eorImmediate | .eorZeroPage | .eorZeroPageX | .eorAbsolute | .eorAbsoluteX | .eorAbsoluteY
  | .eorIndirectX | .eorIndirectY => .eor
  | .aslAccumulator | .aslZeroPage | .aslZeroPageX | .aslAbsolute | .aslAbsoluteX => .asl
  | .lsrAccumulator | .lsrZeroPage | .lsrZeroPageX | .lsrAbsolute | .lsrAbsoluteX => .lsr
  | .rolAccumulator | .rolZeroPage | .rolZeroPageX | .rolAbsolute | .rolAbsoluteX => .rol
  | .rorAccumulator | .rorZeroPage | .rorZeroPageX | .rorAbsolute | .rorAbsoluteX => .ror
  | .cmpImmediate | .cmpZeroPage | .cmpZeroPageX | .cmpAbsolute | .cmpAbsoluteX | .cmpAbsoluteY
  | .cmpIndirectX | .cmpIndirectY => .cmp
  | .cpxImmediate | .cpxZeroPage | .cpxAbsolute => .cpx
  | .cpyImmediate | .cpyZeroPage | .cpyAbsolute => .cpy
  | .incZeroPage | .incZeroPageX | .incAbsolute | .incAbsoluteX => .inc
  | .inx => .inx
  | .iny => .iny
  | .decZeroPage | .decZeroPageX | .decAbsolute | .decAbsoluteX => .dec
  | .dex => .dex
  | .dey => .dey
  | .bitZeroPage | .bitAbsolute => .bit
  | .bcc => .bcc
  | .bcs => .bcs
  | .beq => .beq
  | .bne => .bne
  | .bmi => .bmi
  | .bpl => .bpl
  | .bvc => .bvc
  | .bvs => .bvs
  | .jmpAbsolute | .jmpIndirect => .jmp
  | .jsr => .jsr
  | .rts => .rts
  | .pha => .pha
  | .pla => .pla
  | .php => .php
  | .plp => .plp
  | .rti => .rti
  | .sec => .sec
  | .clc => .clc
  | .sed => .sed
  | .cld => .cld
  | .sei => .sei
  | .cli => .cli
  | .clv => .clv
  | .nop => .nop
  | .brk => .brk

/-- 30_encoding.md R74, R78: the mode selects the resolver's arm. -/
def Instr.mode : Instr → AddressingMode
  | .tax | .tay | .txa | .tya | .tsx | .txs | .inx
  | .iny | .dex | .dey | .rts | .pha | .pla | .php
  | .plp | .rti | .sec | .clc | .sed | .cld | .sei
  | .cli | .clv | .nop | .brk => .noneAddressing
  | .aslAccumulator | .lsrAccumulator | .rolAccumulator | .rorAccumulator => .accumulator
  | .ldaImmediate | .ldxImmediate | .ldyImmediate | .adcImmediate | .sbcImmediate | .andImmediate | .oraImmediate
  | .eorImmediate | .cmpImmediate | .cpxImmediate | .cpyImmediate => .immediate
  | .ldaZeroPage | .ldxZeroPage | .ldyZeroPage | .staZeroPage | .stxZeroPage | .styZeroPage | .adcZeroPage
  | .sbcZeroPage | .andZeroPage | .oraZeroPage | .eorZeroPage | .aslZeroPage | .lsrZeroPage | .rolZeroPage
  | .rorZeroPage | .cmpZeroPage | .cpxZeroPage | .cpyZeroPage | .incZeroPage | .decZeroPage | .bitZeroPage => .zeroPage
  | .ldaZeroPageX | .ldyZeroPageX | .staZeroPageX | .styZeroPageX | .adcZeroPageX | .sbcZeroPageX | .andZeroPageX
  | .oraZeroPageX | .eorZeroPageX | .aslZeroPageX | .lsrZeroPageX | .rolZeroPageX | .rorZeroPageX | .cmpZeroPageX
  | .incZeroPageX | .decZeroPageX => .zeroPageX
  | .ldxZeroPageY | .stxZeroPageY => .zeroPageY
  | .ldaAbsolute | .ldxAbsolute | .ldyAbsolute | .staAbsolute | .stxAbsolute | .styAbsolute | .adcAbsolute
  | .sbcAbsolute | .andAbsolute | .oraAbsolute | .eorAbsolute | .aslAbsolute | .lsrAbsolute | .rolAbsolute
  | .rorAbsolute | .cmpAbsolute | .cpxAbsolute | .cpyAbsolute | .incAbsolute | .decAbsolute | .bitAbsolute
  | .jmpAbsolute | .jsr => .absolute
  | .ldaAbsoluteX | .ldyAbsoluteX | .staAbsoluteX | .adcAbsoluteX | .sbcAbsoluteX | .andAbsoluteX | .oraAbsoluteX
  | .eorAbsoluteX | .aslAbsoluteX | .lsrAbsoluteX | .rolAbsoluteX | .rorAbsoluteX | .cmpAbsoluteX | .incAbsoluteX
  | .decAbsoluteX => .absoluteX
  | .ldaAbsoluteY | .ldxAbsoluteY | .staAbsoluteY | .adcAbsoluteY | .sbcAbsoluteY | .andAbsoluteY | .oraAbsoluteY
  | .eorAbsoluteY | .cmpAbsoluteY => .absoluteY
  | .jmpIndirect => .indirect
  | .ldaIndirectX | .staIndirectX | .adcIndirectX | .sbcIndirectX | .andIndirectX | .oraIndirectX | .eorIndirectX
  | .cmpIndirectX => .indirectX
  | .ldaIndirectY | .staIndirectY | .adcIndirectY | .sbcIndirectY | .andIndirectY | .oraIndirectY | .eorIndirectY
  | .cmpIndirectY => .indirectY
  | .bcc | .bcs | .beq | .bne | .bmi | .bpl | .bvc
  | .bvs => .relative

/-- 30_encoding.md R67: the length in bytes of each mode's format F1, F2 or F3, the opcode byte included. -/
def AddressingMode.formatLength : AddressingMode → Nat
  | .noneAddressing | .accumulator => 1
  | .immediate | .zeroPage | .zeroPageX | .zeroPageY | .indirectX | .indirectY | .relative => 2
  | .absolute | .absoluteX | .absoluteY | .indirect => 3

/-- 30_encoding.md R65, R68: the instruction's length in bytes. -/
def Instr.length (i : Instr) : Nat := i.mode.formatLength

end Sys2Proof
end

