-- ==== Sys2Proof/WellFormed.lean ====
section
/-! DEFINITION. When an instruction of a program image is well formed. Every variant is a row of the catalog by
construction, and no operand byte value is reserved (30_encoding.md R80), so the one thing that can be wrong is the
number of operand bytes (R65, R67). -/

namespace Sys2Proof

/-- 30_encoding.md R65, R67: the instruction has the operand bytes of its mode's format, no fewer and no more. -/
def WellFormed (c : Code) : Bool := c.operands.length + 1 == c.instr.length

end Sys2Proof
end

