-- ==== Sys2Proof/Decode.lean ====
section
/-! DEFINITION. The opcode catalog, the decoder and the encoder (30_encoding.md). The catalog is written from the map by
byte of R76 (lengths and cycle counts from spec/opcode_table.json); the encoder's opcode bytes are written from the
table by mnemonic of R77, so that the two agree is a fact to prove. -/

namespace Sys2Proof

/-- 30_encoding.md R72, R73: what a catalog gives for a code: mnemonic, length in bytes (the opcode included), addressing
mode and cycle count. Any mnemonic may stand with any mode (R81); no rule reads the cycle count (R82, D16). -/
structure Descriptor where
  mnemonic : Mnemonic
  length : Nat
  mode : AddressingMode
  cycles : Nat
deriving DecidableEq, Repr

/-- 30_encoding.md R73: the parameter `Catalog`: a descriptor, or "unknown opcode". -/
abbrev Catalog := Byte → Option Descriptor

/-- A row of this hardware's catalog (R76): its variant stands for the mnemonic and the mode. -/
structure CatalogEntry where
  instr : Instr
  length : Nat
  cycles : Nat
deriving DecidableEq, Repr

/-- The descriptor a row stands for. -/
def CatalogEntry.descriptor (e : CatalogEntry) : Descriptor := ⟨e.instr.mnemonic, e.length, e.instr.mode, e.cycles⟩

/-! The rows of the map of 30_encoding.md R76, one list per high nibble: opcode byte, variant, length, cycles. -/

/-- R76, row `0_`. -/
def catalogRow0 : List (Byte × CatalogEntry) :=
  [(0x00, ⟨.brk, 1, 7⟩), (0x01, ⟨.oraIndirectX, 2, 6⟩), (0x05, ⟨.oraZeroPage, 2, 3⟩),
   (0x06, ⟨.aslZeroPage, 2, 5⟩), (0x08, ⟨.php, 1, 3⟩), (0x09, ⟨.oraImmediate, 2, 2⟩),
   (0x0A, ⟨.aslAccumulator, 1, 2⟩), (0x0D, ⟨.oraAbsolute, 3, 4⟩), (0x0E, ⟨.aslAbsolute, 3, 6⟩)]

/-- R76, row `1_`. -/
def catalogRow1 : List (Byte × CatalogEntry) :=
  [(0x10, ⟨.bpl, 2, 2⟩), (0x11, ⟨.oraIndirectY, 2, 5⟩), (0x15, ⟨.oraZeroPageX, 2, 4⟩),
   (0x16, ⟨.aslZeroPageX, 2, 6⟩), (0x18, ⟨.clc, 1, 2⟩), (0x19, ⟨.oraAbsoluteY, 3, 4⟩),
   (0x1D, ⟨.oraAbsoluteX, 3, 4⟩), (0x1E, ⟨.aslAbsoluteX, 3, 7⟩)]

/-- R76, row `2_`. -/
def catalogRow2 : List (Byte × CatalogEntry) :=
  [(0x20, ⟨.jsr, 3, 6⟩), (0x21, ⟨.andIndirectX, 2, 6⟩), (0x24, ⟨.bitZeroPage, 2, 3⟩),
   (0x25, ⟨.andZeroPage, 2, 3⟩), (0x26, ⟨.rolZeroPage, 2, 5⟩), (0x28, ⟨.plp, 1, 4⟩),
   (0x29, ⟨.andImmediate, 2, 2⟩), (0x2A, ⟨.rolAccumulator, 1, 2⟩), (0x2C, ⟨.bitAbsolute, 3, 4⟩),
   (0x2D, ⟨.andAbsolute, 3, 4⟩), (0x2E, ⟨.rolAbsolute, 3, 6⟩)]

/-- R76, row `3_`. -/
def catalogRow3 : List (Byte × CatalogEntry) :=
  [(0x30, ⟨.bmi, 2, 2⟩), (0x31, ⟨.andIndirectY, 2, 5⟩), (0x35, ⟨.andZeroPageX, 2, 4⟩),
   (0x36, ⟨.rolZeroPageX, 2, 6⟩), (0x38, ⟨.sec, 1, 2⟩), (0x39, ⟨.andAbsoluteY, 3, 4⟩),
   (0x3D, ⟨.andAbsoluteX, 3, 4⟩), (0x3E, ⟨.rolAbsoluteX, 3, 7⟩)]

/-- R76, row `4_`. -/
def catalogRow4 : List (Byte × CatalogEntry) :=
  [(0x40, ⟨.rti, 1, 6⟩), (0x41, ⟨.eorIndirectX, 2, 6⟩), (0x45, ⟨.eorZeroPage, 2, 3⟩),
   (0x46, ⟨.lsrZeroPage, 2, 5⟩), (0x48, ⟨.pha, 1, 3⟩), (0x49, ⟨.eorImmediate, 2, 2⟩),
   (0x4A, ⟨.lsrAccumulator, 1, 2⟩), (0x4C, ⟨.jmpAbsolute, 3, 3⟩), (0x4D, ⟨.eorAbsolute, 3, 4⟩),
   (0x4E, ⟨.lsrAbsolute, 3, 6⟩)]

/-- R76, row `5_`. -/
def catalogRow5 : List (Byte × CatalogEntry) :=
  [(0x50, ⟨.bvc, 2, 2⟩), (0x51, ⟨.eorIndirectY, 2, 5⟩), (0x55, ⟨.eorZeroPageX, 2, 4⟩),
   (0x56, ⟨.lsrZeroPageX, 2, 6⟩), (0x58, ⟨.cli, 1, 2⟩), (0x59, ⟨.eorAbsoluteY, 3, 4⟩),
   (0x5D, ⟨.eorAbsoluteX, 3, 4⟩), (0x5E, ⟨.lsrAbsoluteX, 3, 7⟩)]

/-- R76, row `6_`. -/
def catalogRow6 : List (Byte × CatalogEntry) :=
  [(0x60, ⟨.rts, 1, 6⟩), (0x61, ⟨.adcIndirectX, 2, 6⟩), (0x65, ⟨.adcZeroPage, 2, 3⟩),
   (0x66, ⟨.rorZeroPage, 2, 5⟩), (0x68, ⟨.pla, 1, 4⟩), (0x69, ⟨.adcImmediate, 2, 2⟩),
   (0x6A, ⟨.rorAccumulator, 1, 2⟩), (0x6C, ⟨.jmpIndirect, 3, 5⟩), (0x6D, ⟨.adcAbsolute, 3, 4⟩),
   (0x6E, ⟨.rorAbsolute, 3, 6⟩)]

/-- R76, row `7_`. -/
def catalogRow7 : List (Byte × CatalogEntry) :=
  [(0x70, ⟨.bvs, 2, 2⟩), (0x71, ⟨.adcIndirectY, 2, 5⟩), (0x75, ⟨.adcZeroPageX, 2, 4⟩),
   (0x76, ⟨.rorZeroPageX, 2, 6⟩), (0x78, ⟨.sei, 1, 2⟩), (0x79, ⟨.adcAbsoluteY, 3, 4⟩),
   (0x7D, ⟨.adcAbsoluteX, 3, 4⟩), (0x7E, ⟨.rorAbsoluteX, 3, 7⟩)]

/-- R76, row `8_`. -/
def catalogRow8 : List (Byte × CatalogEntry) :=
  [(0x81, ⟨.staIndirectX, 2, 6⟩), (0x84, ⟨.styZeroPage, 2, 3⟩), (0x85, ⟨.staZeroPage, 2, 3⟩),
   (0x86, ⟨.stxZeroPage, 2, 3⟩), (0x88, ⟨.dey, 1, 2⟩), (0x8A, ⟨.txa, 1, 2⟩),
   (0x8C, ⟨.styAbsolute, 3, 4⟩), (0x8D, ⟨.staAbsolute, 3, 4⟩), (0x8E, ⟨.stxAbsolute, 3, 4⟩)]

/-- R76, row `9_`. -/
def catalogRow9 : List (Byte × CatalogEntry) :=
  [(0x90, ⟨.bcc, 2, 2⟩), (0x91, ⟨.staIndirectY, 2, 6⟩), (0x94, ⟨.styZeroPageX, 2, 4⟩),
   (0x95, ⟨.staZeroPageX, 2, 4⟩), (0x96, ⟨.stxZeroPageY, 2, 4⟩), (0x98, ⟨.tya, 1, 2⟩),
   (0x99, ⟨.staAbsoluteY, 3, 5⟩), (0x9A, ⟨.txs, 1, 2⟩), (0x9D, ⟨.staAbsoluteX, 3, 5⟩)]

/-- R76, row `A_`. -/
def catalogRowA : List (Byte × CatalogEntry) :=
  [(0xA0, ⟨.ldyImmediate, 2, 2⟩), (0xA1, ⟨.ldaIndirectX, 2, 6⟩), (0xA2, ⟨.ldxImmediate, 2, 2⟩),
   (0xA4, ⟨.ldyZeroPage, 2, 3⟩), (0xA5, ⟨.ldaZeroPage, 2, 3⟩), (0xA6, ⟨.ldxZeroPage, 2, 3⟩),
   (0xA8, ⟨.tay, 1, 2⟩), (0xA9, ⟨.ldaImmediate, 2, 2⟩), (0xAA, ⟨.tax, 1, 2⟩),
   (0xAC, ⟨.ldyAbsolute, 3, 4⟩), (0xAD, ⟨.ldaAbsolute, 3, 4⟩), (0xAE, ⟨.ldxAbsolute, 3, 4⟩)]

/-- R76, row `B_`. -/
def catalogRowB : List (Byte × CatalogEntry) :=
  [(0xB0, ⟨.bcs, 2, 2⟩), (0xB1, ⟨.ldaIndirectY, 2, 5⟩), (0xB4, ⟨.ldyZeroPageX, 2, 4⟩),
   (0xB5, ⟨.ldaZeroPageX, 2, 4⟩), (0xB6, ⟨.ldxZeroPageY, 2, 4⟩), (0xB8, ⟨.clv, 1, 2⟩),
   (0xB9, ⟨.ldaAbsoluteY, 3, 4⟩), (0xBA, ⟨.tsx, 1, 2⟩), (0xBC, ⟨.ldyAbsoluteX, 3, 4⟩),
   (0xBD, ⟨.ldaAbsoluteX, 3, 4⟩), (0xBE, ⟨.ldxAbsoluteY, 3, 4⟩)]

/-- R76, row `C_`. -/
def catalogRowC : List (Byte × CatalogEntry) :=
  [(0xC0, ⟨.cpyImmediate, 2, 2⟩), (0xC1, ⟨.cmpIndirectX, 2, 6⟩), (0xC4, ⟨.cpyZeroPage, 2, 3⟩),
   (0xC5, ⟨.cmpZeroPage, 2, 3⟩), (0xC6, ⟨.decZeroPage, 2, 5⟩), (0xC8, ⟨.iny, 1, 2⟩),
   (0xC9, ⟨.cmpImmediate, 2, 2⟩), (0xCA, ⟨.dex, 1, 2⟩), (0xCC, ⟨.cpyAbsolute, 3, 4⟩),
   (0xCD, ⟨.cmpAbsolute, 3, 4⟩), (0xCE, ⟨.decAbsolute, 3, 6⟩)]

/-- R76, row `D_`. -/
def catalogRowD : List (Byte × CatalogEntry) :=
  [(0xD0, ⟨.bne, 2, 2⟩), (0xD1, ⟨.cmpIndirectY, 2, 5⟩), (0xD5, ⟨.cmpZeroPageX, 2, 4⟩),
   (0xD6, ⟨.decZeroPageX, 2, 6⟩), (0xD8, ⟨.cld, 1, 2⟩), (0xD9, ⟨.cmpAbsoluteY, 3, 4⟩),
   (0xDD, ⟨.cmpAbsoluteX, 3, 4⟩), (0xDE, ⟨.decAbsoluteX, 3, 7⟩)]

/-- R76, row `E_`. -/
def catalogRowE : List (Byte × CatalogEntry) :=
  [(0xE0, ⟨.cpxImmediate, 2, 2⟩), (0xE1, ⟨.sbcIndirectX, 2, 6⟩), (0xE4, ⟨.cpxZeroPage, 2, 3⟩),
   (0xE5, ⟨.sbcZeroPage, 2, 3⟩), (0xE6, ⟨.incZeroPage, 2, 5⟩), (0xE8, ⟨.inx, 1, 2⟩),
   (0xE9, ⟨.sbcImmediate, 2, 2⟩), (0xEA, ⟨.nop, 1, 2⟩), (0xEC, ⟨.cpxAbsolute, 3, 4⟩),
   (0xED, ⟨.sbcAbsolute, 3, 4⟩), (0xEE, ⟨.incAbsolute, 3, 6⟩)]

/-- R76, row `F_`. -/
def catalogRowF : List (Byte × CatalogEntry) :=
  [(0xF0, ⟨.beq, 2, 2⟩), (0xF1, ⟨.sbcIndirectY, 2, 5⟩), (0xF5, ⟨.sbcZeroPageX, 2, 4⟩),
   (0xF6, ⟨.incZeroPageX, 2, 6⟩), (0xF8, ⟨.sed, 1, 2⟩), (0xF9, ⟨.sbcAbsoluteY, 3, 4⟩),
   (0xFD, ⟨.sbcAbsoluteX, 3, 4⟩), (0xFE, ⟨.incAbsoluteX, 3, 7⟩)]

/-- 30_encoding.md R76: the 151 entries. -/
def catalogTable : List (Byte × CatalogEntry) :=
  catalogRow0 ++ catalogRow1 ++ catalogRow2 ++ catalogRow3 ++ catalogRow4 ++ catalogRow5 ++ catalogRow6 ++ catalogRow7 ++
  catalogRow8 ++ catalogRow9 ++ catalogRowA ++ catalogRowB ++ catalogRowC ++ catalogRowD ++ catalogRowE ++ catalogRowF

/-- The first row of a table for a byte. -/
def lookupRow : List (Byte × CatalogEntry) → Byte → Option CatalogEntry
  | [], _ => none
  | (b, e) :: rows, op => if b = op then some e else lookupRow rows op

/-- 30_encoding.md R76: the row of this hardware's catalog for a byte. -/
def entryOf (op : Byte) : Option CatalogEntry := lookupRow catalogTable op

/-- 30_encoding.md R76, R79: this hardware's value of the parameter `Catalog` (D1); a byte without a row is an unknown
opcode (D2). -/
def catalog : Catalog := fun op => (entryOf op).map CatalogEntry.descriptor

/-- Why a list of bytes is no instruction. -/
inductive DecodeReject where
  /-- there is no byte at all -/
  | noBytes
  /-- the catalog has no entry for the opcode byte (R72 "unknown opcode", R79) -/
  | unknownOpcode (opcode : Byte)
  /-- the list ends before the operand bytes of the opcode's instruction do -/
  | missingOperands (opcode : Byte)
deriving DecidableEq, Repr

/-- 30_encoding.md R65, R66, R69: the first instruction of a list of bytes by a table of opcodes: what the table gives for
the opcode byte, the operand bytes, and the bytes after them. The opcode byte alone tells the length. -/
def decodeBy {α : Type} (lookup : Byte → Option α) (length : α → Nat) :
    List Byte → Except DecodeReject (α × List Byte × List Byte)
  | [] => .error .noBytes
  | op :: rest =>
    match lookup op with
    | none => .error (.unknownOpcode op)
    | some d =>
      if rest.length < length d - 1 then .error (.missingOperands op)
      else .ok (d, rest.take (length d - 1), rest.drop (length d - 1))

/-- 30_encoding.md R73: decoding over the parameter `Catalog`. -/
def decodeWith (cat : Catalog) : List Byte → Except DecodeReject (Descriptor × List Byte × List Byte) :=
  decodeBy cat Descriptor.length

/-- Decoding by this hardware's catalog: the first instruction of a list of bytes, and the bytes after it. -/
def decode (bytes : List Byte) : Except DecodeReject (Code × List Byte) := do
  let (e, operands, rest) ← decodeBy entryOf CatalogEntry.length bytes
  .ok (⟨e.instr, operands⟩, rest)

/-- 30_encoding.md R77: the opcode byte of each variant, written from the table by mnemonic. -/
def Instr.opcode : Instr → Byte
  | .ldaImmediate => 0xA9#8
  | .ldaZeroPage => 0xA5#8
  | .ldaZeroPageX => 0xB5#8
  | .ldaAbsolute => 0xAD#8
  | .ldaAbsoluteX => 0xBD#8
  | .ldaAbsoluteY => 0xB9#8
  | .ldaIndirectX => 0xA1#8
  | .ldaIndirectY => 0xB1#8
  | .ldxImmediate => 0xA2#8
  | .ldxZeroPage => 0xA6#8
  | .ldxZeroPageY => 0xB6#8
  | .ldxAbsolute => 0xAE#8
  | .ldxAbsoluteY => 0xBE#8
  | .ldyImmediate => 0xA0#8
  | .ldyZeroPage => 0xA4#8
  | .ldyZeroPageX => 0xB4#8
  | .ldyAbsolute => 0xAC#8
  | .ldyAbsoluteX => 0xBC#8
  | .staZeroPage => 0x85#8
  | .staZeroPageX => 0x95#8
  | .staAbsolute => 0x8D#8
  | .staAbsoluteX => 0x9D#8
  | .staAbsoluteY => 0x99#8
  | .staIndirectX => 0x81#8
  | .staIndirectY => 0x91#8
  | .stxZeroPage => 0x86#8
  | .stxZeroPageY => 0x96#8
  | .stxAbsolute => 0x8E#8
  | .styZeroPage => 0x84#8
  | .styZeroPageX => 0x94#8
  | .styAbsolute => 0x8C#8
  | .tax => 0xAA#8
  | .tay => 0xA8#8
  | .txa => 0x8A#8
  | .tya => 0x98#8
  | .tsx => 0xBA#8
  | .txs => 0x9A#8
  | .adcImmediate => 0x69#8
  | .adcZeroPage => 0x65#8
  | .adcZeroPageX => 0x75#8
  | .adcAbsolute => 0x6D#8
  | .adcAbsoluteX => 0x7D#8
  | .adcAbsoluteY => 0x79#8
  | .adcIndirectX => 0x61#8
  | .adcIndirectY => 0x71#8
  | .sbcImmediate => 0xE9#8
  | .sbcZeroPage => 0xE5#8
  | .sbcZeroPageX => 0xF5#8
  | .sbcAbsolute => 0xED#8
  | .sbcAbsoluteX => 0xFD#8
  | .sbcAbsoluteY => 0xF9#8
  | .sbcIndirectX => 0xE1#8
  | .sbcIndirectY => 0xF1#8
  | .andImmediate => 0x29#8
  | .andZeroPage => 0x25#8
  | .andZeroPageX => 0x35#8
  | .andAbsolute => 0x2D#8
  | .andAbsoluteX => 0x3D#8
  | .andAbsoluteY => 0x39#8
  | .andIndirectX => 0x21#8
  | .andIndirectY => 0x31#8
  | .oraImmediate => 0x09#8
  | .oraZeroPage => 0x05#8
  | .oraZeroPageX => 0x15#8
  | .oraAbsolute => 0x0D#8
  | .oraAbsoluteX => 0x1D#8
  | .oraAbsoluteY => 0x19#8
  | .oraIndirectX => 0x01#8
  | .oraIndirectY => 0x11#8
  | .eorImmediate => 0x49#8
  | .eorZeroPage => 0x45#8
  | .eorZeroPageX => 0x55#8
  | .eorAbsolute => 0x4D#8
  | .eorAbsoluteX => 0x5D#8
  | .eorAbsoluteY => 0x59#8
  | .eorIndirectX => 0x41#8
  | .eorIndirectY => 0x51#8
  | .aslAccumulator => 0x0A#8
  | .aslZeroPage => 0x06#8
  | .aslZeroPageX => 0x16#8
  | .aslAbsolute => 0x0E#8
  | .aslAbsoluteX => 0x1E#8
  | .lsrAccumulator => 0x4A#8
  | .lsrZeroPage => 0x46#8
  | .lsrZeroPageX => 0x56#8
  | .lsrAbsolute => 0x4E#8
  | .lsrAbsoluteX => 0x5E#8
  | .rolAccumulator => 0x2A#8
  | .rolZeroPage => 0x26#8
  | .rolZeroPageX => 0x36#8
  | .rolAbsolute => 0x2E#8
  | .rolAbsoluteX => 0x3E#8
  | .rorAccumulator => 0x6A#8
  | .rorZeroPage => 0x66#8
  | .rorZeroPageX => 0x76#8
  | .rorAbsolute => 0x6E#8
  | .rorAbsoluteX => 0x7E#8
  | .cmpImmediate => 0xC9#8
  | .cmpZeroPage => 0xC5#8
  | .cmpZeroPageX => 0xD5#8
  | .cmpAbsolute => 0xCD#8
  | .cmpAbsoluteX => 0xDD#8
  | .cmpAbsoluteY => 0xD9#8
  | .cmpIndirectX => 0xC1#8
  | .cmpIndirectY => 0xD1#8
  | .cpxImmediate => 0xE0#8
  | .cpxZeroPage => 0xE4#8
  | .cpxAbsolute => 0xEC#8
  | .cpyImmediate => 0xC0#8
  | .cpyZeroPage => 0xC4#8
  | .cpyAbsolute => 0xCC#8
  | .incZeroPage => 0xE6#8
  | .incZeroPageX => 0xF6#8
  | .incAbsolute => 0xEE#8
  | .incAbsoluteX => 0xFE#8
  | .inx => 0xE8#8
  | .iny => 0xC8#8
  | .decZeroPage => 0xC6#8
  | .decZeroPageX => 0xD6#8
  | .decAbsolute => 0xCE#8
  | .decAbsoluteX => 0xDE#8
  | .dex => 0xCA#8
  | .dey => 0x88#8
  | .bitZeroPage => 0x24#8
  | .bitAbsolute => 0x2C#8
  | .bcc => 0x90#8
  | .bcs => 0xB0#8
  | .beq => 0xF0#8
  | .bne => 0xD0#8
  | .bmi => 0x30#8
  | .bpl => 0x10#8
  | .bvc => 0x50#8
  | .bvs => 0x70#8
  | .jmpAbsolute => 0x4C#8
  | .jmpIndirect => 0x6C#8
  | .jsr => 0x20#8
  | .rts => 0x60#8
  | .pha => 0x48#8
  | .pla => 0x68#8
  | .php => 0x08#8
  | .plp => 0x28#8
  | .rti => 0x40#8
  | .sec => 0x38#8
  | .clc => 0x18#8
  | .sed => 0xF8#8
  | .cld => 0xD8#8
  | .sei => 0x78#8
  | .cli => 0x58#8
  | .clv => 0xB8#8
  | .nop => 0xEA#8
  | .brk => 0x00#8

/-- 30_encoding.md R65, R67: the bytes of an instruction, opcode first, then its operand bytes. -/
def encode (c : Code) : List Byte := c.instr.opcode :: c.operands

/-- Byte `k` of a number whose bit 0 is the least significant bit of the first byte. -/
def tableByte (w k : Nat) : Byte := BitVec.ofNat 8 (w >>> (8 * k))

/-- The three bytes (the longest format, R67) at the start of which an instruction of `nbits` bits `w` stands; every bit
above `nbits` is 0. -/
def tableBytes (nbits w : Nat) : List Byte :=
  let v := w % 2 ^ nbits
  [tableByte v 0, tableByte v 1, tableByte v 2]

/-- The variant the decoder reads from an instruction whose bits are `w`, numbered as spec/opcode_table.json numbers
them. -/
def decodeTableWord (nbits w : Nat) : Option Instr :=
  match decode (tableBytes nbits w) with
  | .ok (c, _) => some c.instr
  | .error _ => none

end Sys2Proof
end

