-- ==== Sys2Proof/Machine/State.lean ====
section
/-! DEFINITION. The machine's state as plain data (10_state.md R44), the faults (60_exceptions.md R180) and the refusals. -/

namespace Sys2Proof.Machine

open Sys2Proof

/-- 60_exceptions.md R180: the fault kinds with what each records. `opAddr` is the table's `at`, the address of the
faulting instruction's opcode (R181). Every fault is terminal for the run (R184, R185), so a stop here is what the core
itself does, and safe. -/
inductive Fault where
  /-- Code 1. Raised by the fetch when the byte has no catalog entry (R91). Safe: the core stops too. -/
  | unimplementedOpcode (opcode : Byte) (opAddr : Word)
  /-- Code 2. Raised by the resolver for Accumulator and NoneAddressing (R106). Safe: the core stops too; no row of this
  hardware's catalog reaches it (R81). -/
  | unsupportedAddressingMode (mode : AddressingMode) (opAddr : Word)
  /-- Code 3. Raised by a push with `S = 0x00`: PHA, PHP, JSR (R108). Safe: the core stops too. -/
  | stackOverflow (sp : Byte) (opAddr : Word)
  /-- Code 4. Raised by a pop with `S = 0xFF`: PLA, PLP, RTS, RTI (R109). Safe: the core stops too. -/
  | stackUnderflow (sp : Byte) (opAddr : Word)
  /-- Code 5. Returned by the host command `load` for an image over 0x8000 bytes (R202), never by a step. Safe. -/
  | loadTooLarge (length : Nat)
  /-- Code 6. Raised by a 16-bit address step that leaves 0..0xFFFF, only under `AddressWrapPolicy = Fault` (R90), so
  never on this hardware. Safe. -/
  | addressOverflow (opAddr : Word)
deriving DecidableEq, Repr

/-- What the model gives no meaning to. -/
inductive Refusal where
  /-- Raised by an arm of `exec` whose instruction has no meaning yet. Safe. No arm of this model does. -/
  | notModelled (mnemonic : String)
  /-- Raised by `step` and by every host command but `new` on a faulted core: the spec gives them no meaning
  (60_exceptions.md R185). Safe. -/
  | afterFault (kind : Fault)
  /-- Raised by a host command while `run` executes: none is accepted then (00_scope.md R6, 10_state.md R43). Safe. -/
  | duringRun
deriving DecidableEq, Repr

/-- 10_state.md R39: the core's run status. -/
inductive RunStatus where
  /-- not executing: after `new`, `load`, `reset`, and after `run` returned `Halted` -/
  | idle
  /-- inside `run` -/
  | running
  /-- after `run` returned a fault -/
  | faulted (kind : Fault)
deriving DecidableEq, Repr

/-- The memory array (10_state.md R37): the bytes that differ from what an unlisted address reads as, by strictly rising
address. -/
abbrev Memory := List Host.Cell

/-- 10_state.md R37, 20_memory.md R47: a byte nothing has written since `new` reads as 0x00. -/
def Memory.unwritten : Byte := 0x00#8

/-- The canonical form from address `lo` on: strictly rising, inside the 65536 addresses, no entry equal to what an
unlisted address reads as. -/
def Memory.wfFrom (lo : Nat) : Memory → Bool
  | [] => true
  | (a, v) :: m => decide (lo ≤ a) && decide (a < 65536) && v != Memory.unwritten && Memory.wfFrom (a + 1) m

/-- The canonical form of the memory array: equal memories are equal lists. -/
def Memory.wf (m : Memory) : Bool := Memory.wfFrom 0 m

/-- 10_state.md R44: every piece of state. The catalog (R40) is a parameter, `Params.catalog`. -/
structure State where
  /-- the accumulator `A` (R19) -/
  a : Byte
  /-- the index register `X` (R20) -/
  x : Byte
  /-- the index register `Y` (R21) -/
  y : Byte
  /-- the stack pointer `S` (R22) -/
  sp : Byte
  /-- the program counter `PC` (R23) -/
  pc : Word
  /-- the status register `P`, all eight bits as stored (R25, R26) -/
  p : Byte
  /-- the memory array `Mem` (R37) -/
  mem : Memory
  /-- whether trace records are emitted (R38) -/
  traceEnabled : Bool
  /-- the run status (R39) -/
  status : RunStatus
deriving DecidableEq, Repr

/-- 70_reset_and_hazards.md R197: the power-on state that `new` builds. -/
def State.powerOn : State where
  a := 0x00#8
  x := 0x00#8
  y := 0x00#8
  sp := Config.stackReset
  pc := 0x0000#16
  p := 0x00#8
  mem := []
  traceEnabled := false
  status := .idle

/-- The machine right after `reset` on a core fresh from `new` (10_state.md R44, 70_reset_and_hazards.md R198, R205): the
reset vector of the zeroed memory is 0x0000, and Y keeps its power-on value (DEDUCED, log 1). -/
def State.reset : State where
  a := 0x00#8
  x := 0x00#8
  y := 0x00#8
  sp := Config.stackReset
  pc := 0x0000#16
  p := 0x00#8
  mem := []
  traceEnabled := false
  status := .idle

end Sys2Proof.Machine
end

