-- ==== Sys2Proof/Machine/Params.lean ====
section
/-! DEFINITION. The named parameters of 00_scope.md R10 as one argument of the machine, and the values this hardware gives
them, each a decision of 92_eei_decisions.md. `Fuel` is an argument of the runner (Machine/HostCommands.lean). -/

namespace Sys2Proof.Machine

open Sys2Proof

/-- 00_scope.md R10: the parameters the source leaves open. Every rule that depends on one takes it from here. -/
structure Params where
  /-- 30_encoding.md R73 -/
  catalog : Catalog
  /-- 44_compare_incdec_bit.md R142 -/
  compareNegativeRule : CompareNegativeRule
  /-- 42_arithmetic_logic.md R132: V of ADC, a function of A, the operand and the carry -/
  adcOverflowRule : Byte → Byte → Bool → Bool
  /-- 42_arithmetic_logic.md R133: V of SBC, a function of A, the operand and the carry -/
  sbcOverflowRule : Byte → Byte → Bool → Bool
  /-- 40_execution_loop.md R90 -/
  addressWrapPolicy : AddressWrapPolicy

/-- D8: this hardware takes 16-bit address steps modulo 65536 (log 8). -/
def addressWrapPolicy : AddressWrapPolicy := .wrap

/-- D3: this hardware's compares set N to register < operand (log 9). -/
def compareNegativeRule : CompareNegativeRule := .literal

/-- D4: V of ADC is signed overflow of A + val + C, `((A ^ r) & (val ^ r))[7]` (42_arithmetic_logic.md R132; log 10). -/
def adcOverflowRule (a val : Byte) (cin : Bool) : Bool :=
  let r := BitVec.ofNat 8 (a.toNat + val.toNat + cin.toNat)
  ((a ^^^ r) &&& (val ^^^ r)).getLsbD 7

/-- D5: V of SBC is signed overflow of A - val - (1 - C), `((A ^ val) & (A ^ r))[7]` (42_arithmetic_logic.md R133;
log 10). -/
def sbcOverflowRule (a val : Byte) (cin : Bool) : Bool :=
  let r := BitVec.ofInt 8 ((a.toNat : Int) - val.toNat - (1 - cin.toNat))
  ((a ^^^ val) &&& (a ^^^ r)).getLsbD 7

/-- 00_scope.md R10: "value decided for this hardware". -/
def hardware : Params where
  catalog := catalog
  compareNegativeRule := compareNegativeRule
  adcOverflowRule := adcOverflowRule
  sbcOverflowRule := sbcOverflowRule
  addressWrapPolicy := addressWrapPolicy

end Sys2Proof.Machine
end

