-- ==== Sys2Proof/Machine/Flags.lean ====
section
/-! DEFINITION. The status register P and every flag computation of the spec. -/

namespace Sys2Proof.Machine

open Sys2Proof

/-- 10_state.md R25: the eight bits of P by name. -/
inductive Flag where
  | carry | zero | interruptDisable | decimal | brk | one | overflow | negative
deriving DecidableEq, Repr

/-- 10_state.md R25: the bit each name stands at. -/
def flagBit : Flag → Nat
  | .carry => 0
  | .zero => 1
  | .interruptDisable => 2
  | .decimal => 3
  | .brk => 4
  | .one => 5
  | .overflow => 6
  | .negative => 7

/-- 10_state.md R25: "Reading a flag returns its bit". -/
def getFlag (p : Byte) (f : Flag) : Bool := p.getLsbD (flagBit f)

/-- The byte whose one set bit is the flag's. -/
def flagMask (f : Flag) : Byte := 1#8 <<< flagBit f

/-- 10_state.md R25: "setting one flag writes only that bit". -/
def setFlag (p : Byte) (f : Flag) (b : Bool) : Byte :=
  if b then p ||| flagMask f else p &&& ~~~flagMask f

/-- 40_execution_loop.md R113: `SetZN(v)`. -/
def setZN (p v : Byte) : Byte :=
  setFlag (setFlag p .zero (v == 0x00#8)) .negative (v.getLsbD 7)

/-- 44_compare_incdec_bit.md R142: `Compare(reg, val)`, all comparisons unsigned. -/
def Params.compareFlags (ps : Params) (p reg val : Byte) : Byte :=
  let n := match ps.compareNegativeRule with
    | .literal => decide (reg.toNat < val.toNat)
    | .nmos => (reg - val).getLsbD 7
  setFlag (setFlag (setFlag p .carry (decide (val.toNat ≤ reg.toNat))) .zero (reg == val)) .negative n

/-- 42_arithmetic_logic.md R132: ADC's result and P. Binary whatever D holds (R131, D6). -/
def Params.adcResult (ps : Params) (p a val : Byte) : Byte × Byte :=
  let cin := getFlag p .carry
  let sum := a.toNat + val.toNat + cin.toNat
  let r := BitVec.ofNat 8 sum
  (r, setZN (setFlag (setFlag p .carry (decide (256 ≤ sum))) .overflow (ps.adcOverflowRule a val cin)) r)

/-- 42_arithmetic_logic.md R133: SBC's result and P. Binary whatever D holds (R131, D6). -/
def Params.sbcResult (ps : Params) (p a val : Byte) : Byte × Byte :=
  let cin := getFlag p .carry
  let diff : Int := (a.toNat : Int) - val.toNat - (1 - cin.toNat)
  let r := BitVec.ofInt 8 diff
  (r, setZN (setFlag (setFlag p .carry (decide (0 ≤ diff))) .overflow (ps.sbcOverflowRule a val cin)) r)

/-- 43_shift_rotate.md R138: ASL's `f(v)`: the result and P. -/
def aslResult (p v : Byte) : Byte × Byte :=
  let r := v <<< 1
  (r, setZN (setFlag p .carry (v.getLsbD 7)) r)

/-- 43_shift_rotate.md R139: LSR's `f(v)`. -/
def lsrResult (p v : Byte) : Byte × Byte :=
  let r := v >>> 1
  (r, setZN (setFlag p .carry (v.getLsbD 0)) r)

/-- 43_shift_rotate.md R140: ROL's `f(v)`; the old carry goes into bit 0. -/
def rolResult (p v : Byte) : Byte × Byte :=
  let cold := getFlag p .carry
  let r := (v <<< 1) ||| BitVec.ofNat 8 cold.toNat
  (r, setZN (setFlag p .carry (v.getLsbD 7)) r)

/-- 43_shift_rotate.md R141: ROR's `f(v)`; the old carry goes into bit 7. -/
def rorResult (p v : Byte) : Byte × Byte :=
  let cold := getFlag p .carry
  let r := (v >>> 1) ||| (BitVec.ofNat 8 cold.toNat <<< 7)
  (r, setZN (setFlag p .carry (v.getLsbD 0)) r)

/-- 44_compare_incdec_bit.md R146: INC's `f(v)`; no carry is recorded. -/
def incResult (p v : Byte) : Byte × Byte :=
  let r := v + 1#8
  (r, setZN p r)

/-- 44_compare_incdec_bit.md R149: DEC's `f(v)`; no borrow is recorded. -/
def decResult (p v : Byte) : Byte × Byte :=
  let r := v - 1#8
  (r, setZN p r)

/-- 44_compare_incdec_bit.md R152: BIT's flags; V and N come from the memory byte, not from `val & A`. -/
def bitFlags (p a val : Byte) : Byte :=
  setFlag (setFlag (setFlag p .zero ((val &&& a) == 0x00#8)) .overflow (val.getLsbD 6)) .negative (val.getLsbD 7)

/-- 47_stack_rti.md R167: the byte PHP pushes, with B and bit 5 set in the copy only. -/
def pushedStatus (p : Byte) : Byte := p ||| 0x30#8

/-- 47_stack_rti.md R168, R169: what PLP and RTI store of a popped byte, B cleared and bit 5 as popped (D13). -/
def pulledStatus (v : Byte) : Byte := v &&& 0xEF#8

end Sys2Proof.Machine
end

