-- ==== Sys2Proof/Machine/Ops.lean ====
section
/-! DEFINITION. The named operations over memory and registers: bytes and words, the memory array, address steps, the PC
advance, the stack primitives. The core has no exception entry: a fault saves no state and vectors nowhere
(60_exceptions.md R184), so taking one is `Except.error` here and `Outcome.fault` in a step. The return the source calls
an interrupt return is RTI, an ordinary stack instruction (R187; Machine/StackRti.lean). -/

namespace Sys2Proof.Machine

open Sys2Proof

/-! ### Bytes and words (00_scope.md R12, R13) -/

/-- R12: `hi:lo`, the value `hi * 256 + lo`. -/
def concat16 (hi lo : Byte) : Word := hi ++ lo

/-- R12: `v[15:8]`. -/
def highByte (v : Word) : Byte := v.extractLsb' 8 8

/-- R12: `v[7:0]`. -/
def lowByte (v : Word) : Byte := v.extractLsb' 0 8

/-- R13: `zext16(b)`. -/
def zext16 (b : Byte) : Word := b.setWidth 16

/-- R13: `sext16(b)`. -/
def sext16 (b : Byte) : Word := b.signExtend 16

/-! ### The memory array (20_memory.md) -/

/-- The byte listed for an address, or what an unlisted address reads as. -/
def Memory.readAt : Memory → Nat → Byte
  | [], _ => Memory.unwritten
  | (b, v) :: m, a => if b = a then v else Memory.readAt m a

/-- An entry put before the first entry of a higher address. -/
def Memory.insertAt : Memory → Nat → Byte → Memory
  | [], a, v => [(a, v)]
  | (b, w) :: m, a, v => if a < b then (a, v) :: (b, w) :: m else (b, w) :: Memory.insertAt m a v

/-- The memory without any entry for an address. -/
def Memory.eraseAt : Memory → Nat → Memory
  | [], _ => []
  | (b, w) :: m, a => if b = a then Memory.eraseAt m a else (b, w) :: Memory.eraseAt m a

/-- One byte stored; storing what an unlisted address reads as removes the entry, so the canonical form is kept. -/
def Memory.writeAt (m : Memory) (a : Nat) (v : Byte) : Memory :=
  if v = Memory.unwritten then m.eraseAt a else (m.eraseAt a).insertAt a v

/-- 20_memory.md R47: `MemRead(addr, 1)`. -/
def Memory.read (m : Memory) (addr : Word) : Byte := m.readAt addr.toNat

/-- 20_memory.md R47: `MemWrite(addr, 1, v)`. -/
def Memory.write (m : Memory) (addr : Word) (v : Byte) : Memory := m.writeAt addr.toNat v

/-! ### Register updates, one for each field of State -/

def State.setA (s : State) (v : Byte) : State := { s with a := v }
def State.setX (s : State) (v : Byte) : State := { s with x := v }
def State.setY (s : State) (v : Byte) : State := { s with y := v }
def State.setSp (s : State) (v : Byte) : State := { s with sp := v }
def State.setPc (s : State) (v : Word) : State := { s with pc := v }
def State.setP (s : State) (v : Byte) : State := { s with p := v }
def State.setMem (s : State) (m : Memory) : State := { s with mem := m }
def State.setTrace (s : State) (b : Bool) : State := { s with traceEnabled := b }
def State.setStatus (s : State) (r : RunStatus) : State := { s with status := r }

/-- 00_scope.md R14: `MemRead` on a state. -/
def State.read (s : State) (addr : Word) : Byte := s.mem.read addr

/-- 00_scope.md R14: `MemWrite` on a state. -/
def State.write (s : State) (addr : Word) (v : Byte) : State := s.setMem (s.mem.write addr v)

/-! ### Address steps and the program counter (40_execution_loop.md R89, R90, R93) -/

/-- The address of the executing instruction's opcode. While an instruction executes, PC holds that address plus 1
(R89), and no instruction moves PC before its last check (DEDUCED, log 5). -/
def State.opAddr (s : State) : Word := s.pc - 1#16

/-- R90: a `+16` step of `d` that the source gives no explicit wrap for, governed by `AddressWrapPolicy`; `opAddr` is what
the fault records. -/
def Params.addrStep (ps : Params) (opAddr addr : Word) (d : Int) : Except Fault Word :=
  match ps.addressWrapPolicy with
  | .wrap => .ok (addr + BitVec.ofInt 16 d)
  | .fault =>
    if 0 ≤ (addr.toNat : Int) + d ∧ (addr.toNat : Int) + d < 65536 then .ok (addr + BitVec.ofInt 16 d)
    else .error (.addressOverflow opAddr)

/-- 20_memory.md R51: `MemRead16(addr)`, little-endian. -/
def Params.read16 (ps : Params) (s : State) (addr : Word) : Except Fault Word := do
  let next ← ps.addrStep s.opAddr addr 1
  .ok (concat16 (s.read next) (s.read addr))

/-- 40_execution_loop.md R93: `Advance(len)`, PC <- PC +16 (len - 1). The length is the catalog entry's (R88, 30_encoding.md
R74), which on this hardware is the 1 or 2 that a rule of 41 to 48 may write out (DEDUCED, log 6). -/
def Params.advance (ps : Params) (len : Nat) (s : State) : Except Fault State := do
  let pc ← ps.addrStep s.opAddr s.pc ((len : Int) - 1)
  .ok (s.setPc pc)

/-! ### The stack primitives (40_execution_loop.md R108 to R111) -/

/-- R108: the address of the stack byte S names. -/
def stackAddr (sp : Byte) : Word := Config.stackPage + zext16 sp

/-- R108: `Push(v)`; the check comes before the write (D9). -/
def State.push (s : State) (v : Byte) : Except Fault State :=
  if s.sp = 0x00#8 then .error (.stackOverflow s.sp s.opAddr)
  else .ok ((s.write (stackAddr s.sp) v).setSp (s.sp - 1#8))

/-- R109: `Pop()`: the byte, and the state with S incremented before the read. -/
def State.pop (s : State) : Except Fault (Byte × State) :=
  if s.sp = 0xFF#8 then .error (.stackUnderflow s.sp s.opAddr)
  else .ok (s.read (stackAddr (s.sp + 1#8)), s.setSp (s.sp + 1#8))

/-- R110: `PushU16(v)`, high byte first. -/
def State.push16 (s : State) (v : Word) : Except Fault State := do
  let s ← s.push (highByte v)
  s.push (lowByte v)

/-- R111: `PopU16()`, low byte first. -/
def State.pop16 (s : State) : Except Fault (Word × State) := do
  let (lo, s) ← s.pop
  let (hi, s) ← s.pop
  .ok (concat16 hi lo, s)

/-! ### The end of an instruction -/

/-- The outcomes of a step of this machine (00_scope.md R8). -/
abbrev StepOutcome := Host.Outcome State Fault Refusal

/-- 00_scope.md R8, R14: `raise` ends the step with outcome `Fault`; otherwise the step answers the next state. -/
def finish : Except Fault State → StepOutcome
  | .ok s => .next s
  | .error f => .fault f

end Sys2Proof.Machine
end

