-- ==== Sys2Proof/Machine/Operands.lean ====
section
/-! DEFINITION. The addressing-mode resolver and operand access (40_execution_loop.md R96 to R107). PC is the address of
the first operand byte (R89). -/

namespace Sys2Proof.Machine

open Sys2Proof

/-- R103, R104: a zero-page pointer dereferenced: two byte reads, little-endian, wrapping within page 0. -/
def State.zeroPagePointer (s : State) (ptr : Byte) : Word :=
  concat16 (s.read (zext16 (ptr + 1#8))) (s.read (zext16 ptr))

/-- R96: `Resolve(mode)`: the effective address, one arm per mode (R97 to R106). It reads memory, PC, X and Y only and
changes no state. -/
def Params.resolve (ps : Params) (m : AddressingMode) (s : State) : Except Fault Word :=
  match m with
  | .immediate => .ok s.pc
  | .zeroPage => .ok (zext16 (s.read s.pc))
  | .zeroPageX => .ok (zext16 (s.read s.pc + s.x))
  | .zeroPageY => .ok (zext16 (s.read s.pc + s.y))
  | .absolute => ps.read16 s s.pc
  | .absoluteX => do
    let base ← ps.read16 s s.pc
    .ok (base + zext16 s.x)
  | .absoluteY => do
    let base ← ps.read16 s s.pc
    .ok (base + zext16 s.y)
  | .indirect => do
    let ptr ← ps.read16 s s.pc
    ps.read16 s ptr
  | .indirectX => .ok (s.zeroPagePointer (s.read s.pc + s.x))
  | .indirectY => .ok (s.zeroPagePointer (s.read s.pc) + zext16 s.y)
  | .relative => ps.addrStep s.opAddr s.pc ((s.read s.pc).toInt + 1)
  | .accumulator => .error (.unsupportedAddressingMode .accumulator s.opAddr)
  | .noneAddressing => .error (.unsupportedAddressingMode .noneAddressing s.opAddr)

/-- R118 to R152: `MemRead(Resolve(mode), 1)`, the operand of an instruction that reads memory. -/
def Params.readMemoryOperand (ps : Params) (m : AddressingMode) (s : State) : Except Fault Byte := do
  let addr ← ps.resolve m s
  .ok (s.read addr)

/-- Where a read-modify-write instruction reads and writes (R107). -/
inductive Place where
  | accumulator
  | memory (addr : Word)
deriving DecidableEq, Repr

/-- R107: the place of a mode, resolved once; Accumulator never reaches the resolver. -/
def Params.placeOf (ps : Params) (m : AddressingMode) (s : State) : Except Fault Place :=
  match m with
  | .accumulator => .ok .accumulator
  | m => do
    let addr ← ps.resolve m s
    .ok (.memory addr)

/-- The byte at a place. -/
def State.readPlace (s : State) : Place → Byte
  | .accumulator => s.a
  | .memory addr => s.read addr

/-- A byte stored at a place. -/
def State.writePlace (s : State) (v : Byte) : Place → State
  | .accumulator => s.setA v
  | .memory addr => s.write addr v

/-- R107: `ReadOperand(mode)`, the accumulator or the memory byte. -/
def Params.readOperand (ps : Params) (m : AddressingMode) (s : State) : Except Fault Byte := do
  let place ← ps.placeOf m s
  .ok (s.readPlace place)

/-- R107: `RMW(mode, f)`: resolve once, then read and write the same place; `f` takes P and the byte, and gives the result
and the new P. -/
def Params.readModifyWrite (ps : Params) (m : AddressingMode) (f : Byte → Byte → Byte × Byte) (s : State) :
    Except Fault State := do
  let place ← ps.placeOf m s
  let r := f s.p (s.readPlace place)
  .ok ((s.setP r.2).writePlace r.1 place)

end Sys2Proof.Machine
end

