-- ==== Sys2Proof/Machine/ArithmeticLogic.lean ====
section
/-! DEFINITION. 42_arithmetic_logic.md: ADC, SBC, AND, ORA, EOR (R131 to R136). -/

namespace Sys2Proof.Machine

open Sys2Proof

/-- R132 to R136: the shared accumulator operation: `f` takes P, A and the operand byte, and gives the new A and P. -/
def Params.accumulate (ps : Params) (f : Byte → Byte → Byte → Byte × Byte) (m : AddressingMode) (len : Nat) (s : State) :
    Except Fault State := do
  let val ← ps.readMemoryOperand m s
  let r := f s.p s.a val
  ps.advance len ((s.setA r.1).setP r.2)

/-- R134 to R136: a bitwise operation's result and P. -/
def logicResult (op : Byte → Byte → Byte) (p a val : Byte) : Byte × Byte := (op a val, setZN p (op a val))

/-- R132: ADC. -/
def Params.ruleAdc (ps : Params) (m : AddressingMode) (len : Nat) (s : State) : Except Fault State :=
  ps.accumulate ps.adcResult m len s

/-- R132, opcode 0x69: ADC Immediate. -/
def execAdcImmediate (s : State) : StepOutcome := finish (hardware.ruleAdc .immediate 2 s)

/-- R132, opcode 0x65: ADC ZeroPage. -/
def execAdcZeroPage (s : State) : StepOutcome := finish (hardware.ruleAdc .zeroPage 2 s)

/-- R132, opcode 0x75: ADC ZeroPage_X. -/
def execAdcZeroPageX (s : State) : StepOutcome := finish (hardware.ruleAdc .zeroPageX 2 s)

/-- R132, opcode 0x6D: ADC Absolute. -/
def execAdcAbsolute (s : State) : StepOutcome := finish (hardware.ruleAdc .absolute 3 s)

/-- R132, opcode 0x7D: ADC Absolute_X. -/
def execAdcAbsoluteX (s : State) : StepOutcome := finish (hardware.ruleAdc .absoluteX 3 s)

/-- R132, opcode 0x79: ADC Absolute_Y. -/
def execAdcAbsoluteY (s : State) : StepOutcome := finish (hardware.ruleAdc .absoluteY 3 s)

/-- R132, opcode 0x61: ADC Indirect_X. -/
def execAdcIndirectX (s : State) : StepOutcome := finish (hardware.ruleAdc .indirectX 2 s)

/-- R132, opcode 0x71: ADC Indirect_Y. -/
def execAdcIndirectY (s : State) : StepOutcome := finish (hardware.ruleAdc .indirectY 2 s)

/-- R133: SBC. -/
def Params.ruleSbc (ps : Params) (m : AddressingMode) (len : Nat) (s : State) : Except Fault State :=
  ps.accumulate ps.sbcResult m len s

/-- R133, opcode 0xE9: SBC Immediate. -/
def execSbcImmediate (s : State) : StepOutcome := finish (hardware.ruleSbc .immediate 2 s)

/-- R133, opcode 0xE5: SBC ZeroPage. -/
def execSbcZeroPage (s : State) : StepOutcome := finish (hardware.ruleSbc .zeroPage 2 s)

/-- R133, opcode 0xF5: SBC ZeroPage_X. -/
def execSbcZeroPageX (s : State) : StepOutcome := finish (hardware.ruleSbc .zeroPageX 2 s)

/-- R133, opcode 0xED: SBC Absolute. -/
def execSbcAbsolute (s : State) : StepOutcome := finish (hardware.ruleSbc .absolute 3 s)

/-- R133, opcode 0xFD: SBC Absolute_X. -/
def execSbcAbsoluteX (s : State) : StepOutcome := finish (hardware.ruleSbc .absoluteX 3 s)

/-- R133, opcode 0xF9: SBC Absolute_Y. -/
def execSbcAbsoluteY (s : State) : StepOutcome := finish (hardware.ruleSbc .absoluteY 3 s)

/-- R133, opcode 0xE1: SBC Indirect_X. -/
def execSbcIndirectX (s : State) : StepOutcome := finish (hardware.ruleSbc .indirectX 2 s)

/-- R133, opcode 0xF1: SBC Indirect_Y. -/
def execSbcIndirectY (s : State) : StepOutcome := finish (hardware.ruleSbc .indirectY 2 s)

/-- R134: AND. -/
def Params.ruleAnd (ps : Params) (m : AddressingMode) (len : Nat) (s : State) : Except Fault State :=
  ps.accumulate (logicResult (· &&& ·)) m len s

/-- R134, opcode 0x29: AND Immediate. -/
def execAndImmediate (s : State) : StepOutcome := finish (hardware.ruleAnd .immediate 2 s)

/-- R134, opcode 0x25: AND ZeroPage. -/
def execAndZeroPage (s : State) : StepOutcome := finish (hardware.ruleAnd .zeroPage 2 s)

/-- R134, opcode 0x35: AND ZeroPage_X. -/
def execAndZeroPageX (s : State) : StepOutcome := finish (hardware.ruleAnd .zeroPageX 2 s)

/-- R134, opcode 0x2D: AND Absolute. -/
def execAndAbsolute (s : State) : StepOutcome := finish (hardware.ruleAnd .absolute 3 s)

/-- R134, opcode 0x3D: AND Absolute_X. -/
def execAndAbsoluteX (s : State) : StepOutcome := finish (hardware.ruleAnd .absoluteX 3 s)

/-- R134, opcode 0x39: AND Absolute_Y. -/
def execAndAbsoluteY (s : State) : StepOutcome := finish (hardware.ruleAnd .absoluteY 3 s)

/-- R134, opcode 0x21: AND Indirect_X. -/
def execAndIndirectX (s : State) : StepOutcome := finish (hardware.ruleAnd .indirectX 2 s)

/-- R134, opcode 0x31: AND Indirect_Y. -/
def execAndIndirectY (s : State) : StepOutcome := finish (hardware.ruleAnd .indirectY 2 s)

/-- R135: ORA. -/
def Params.ruleOra (ps : Params) (m : AddressingMode) (len : Nat) (s : State) : Except Fault State :=
  ps.accumulate (logicResult (· ||| ·)) m len s

/-- R135, opcode 0x09: ORA Immediate. -/
def execOraImmediate (s : State) : StepOutcome := finish (hardware.ruleOra .immediate 2 s)

/-- R135, opcode 0x05: ORA ZeroPage. -/
def execOraZeroPage (s : State) : StepOutcome := finish (hardware.ruleOra .zeroPage 2 s)

/-- R135, opcode 0x15: ORA ZeroPage_X. -/
def execOraZeroPageX (s : State) : StepOutcome := finish (hardware.ruleOra .zeroPageX 2 s)

/-- R135, opcode 0x0D: ORA Absolute. -/
def execOraAbsolute (s : State) : StepOutcome := finish (hardware.ruleOra .absolute 3 s)

/-- R135, opcode 0x1D: ORA Absolute_X. -/
def execOraAbsoluteX (s : State) : StepOutcome := finish (hardware.ruleOra .absoluteX 3 s)

/-- R135, opcode 0x19: ORA Absolute_Y. -/
def execOraAbsoluteY (s : State) : StepOutcome := finish (hardware.ruleOra .absoluteY 3 s)

/-- R135, opcode 0x01: ORA Indirect_X. -/
def execOraIndirectX (s : State) : StepOutcome := finish (hardware.ruleOra .indirectX 2 s)

/-- R135, opcode 0x11: ORA Indirect_Y. -/
def execOraIndirectY (s : State) : StepOutcome := finish (hardware.ruleOra .indirectY 2 s)

/-- R136: EOR. -/
def Params.ruleEor (ps : Params) (m : AddressingMode) (len : Nat) (s : State) : Except Fault State :=
  ps.accumulate (logicResult (· ^^^ ·)) m len s

/-- R136, opcode 0x49: EOR Immediate. -/
def execEorImmediate (s : State) : StepOutcome := finish (hardware.ruleEor .immediate 2 s)

/-- R136, opcode 0x45: EOR ZeroPage. -/
def execEorZeroPage (s : State) : StepOutcome := finish (hardware.ruleEor .zeroPage 2 s)

/-- R136, opcode 0x55: EOR ZeroPage_X. -/
def execEorZeroPageX (s : State) : StepOutcome := finish (hardware.ruleEor .zeroPageX 2 s)

/-- R136, opcode 0x4D: EOR Absolute. -/
def execEorAbsolute (s : State) : StepOutcome := finish (hardware.ruleEor .absolute 3 s)

/-- R136, opcode 0x5D: EOR Absolute_X. -/
def execEorAbsoluteX (s : State) : StepOutcome := finish (hardware.ruleEor .absoluteX 3 s)

/-- R136, opcode 0x59: EOR Absolute_Y. -/
def execEorAbsoluteY (s : State) : StepOutcome := finish (hardware.ruleEor .absoluteY 3 s)

/-- R136, opcode 0x41: EOR Indirect_X. -/
def execEorIndirectX (s : State) : StepOutcome := finish (hardware.ruleEor .indirectX 2 s)

/-- R136, opcode 0x51: EOR Indirect_Y. -/
def execEorIndirectY (s : State) : StepOutcome := finish (hardware.ruleEor .indirectY 2 s)

end Sys2Proof.Machine
end

