-- ==== Sys2Proof/Machine/Branch.lean ====
section
/-! DEFINITION. 45_branch.md: the conditional branches (R153 to R161). -/

namespace Sys2Proof.Machine

open Sys2Proof

/-- R153: the shared branch: taken, PC is the resolved Relative target and does not also advance; otherwise it advances to
the next instruction. No flag is written. -/
def Params.branch (ps : Params) (cond : Bool) (len : Nat) (s : State) : Except Fault State :=
  if cond then do
    let target ← ps.resolve .relative s
    .ok (s.setPc target)
  else ps.advance len s

/-- R154: BCC, taken if the carry flag is 0. -/
def Params.ruleBcc (ps : Params) (len : Nat) (s : State) : Except Fault State :=
  ps.branch (getFlag s.p .carry == false) len s

/-- R154, opcode 0x90: BCC. -/
def execBcc (s : State) : StepOutcome := finish (hardware.ruleBcc 2 s)

/-- R155: BCS, taken if the carry flag is 1. -/
def Params.ruleBcs (ps : Params) (len : Nat) (s : State) : Except Fault State :=
  ps.branch (getFlag s.p .carry == true) len s

/-- R155, opcode 0xB0: BCS. -/
def execBcs (s : State) : StepOutcome := finish (hardware.ruleBcs 2 s)

/-- R156: BEQ, taken if the zero flag is 1. -/
def Params.ruleBeq (ps : Params) (len : Nat) (s : State) : Except Fault State :=
  ps.branch (getFlag s.p .zero == true) len s

/-- R156, opcode 0xF0: BEQ. -/
def execBeq (s : State) : StepOutcome := finish (hardware.ruleBeq 2 s)

/-- R157: BNE, taken if the zero flag is 0. -/
def Params.ruleBne (ps : Params) (len : Nat) (s : State) : Except Fault State :=
  ps.branch (getFlag s.p .zero == false) len s

/-- R157, opcode 0xD0: BNE. -/
def execBne (s : State) : StepOutcome := finish (hardware.ruleBne 2 s)

/-- R158: BMI, taken if the negative flag is 1. -/
def Params.ruleBmi (ps : Params) (len : Nat) (s : State) : Except Fault State :=
  ps.branch (getFlag s.p .negative == true) len s

/-- R158, opcode 0x30: BMI. -/
def execBmi (s : State) : StepOutcome := finish (hardware.ruleBmi 2 s)

/-- R159: BPL, taken if the negative flag is 0. -/
def Params.ruleBpl (ps : Params) (len : Nat) (s : State) : Except Fault State :=
  ps.branch (getFlag s.p .negative == false) len s

/-- R159, opcode 0x10: BPL. -/
def execBpl (s : State) : StepOutcome := finish (hardware.ruleBpl 2 s)

/-- R160: BVC, taken if the overflow flag is 0. -/
def Params.ruleBvc (ps : Params) (len : Nat) (s : State) : Except Fault State :=
  ps.branch (getFlag s.p .overflow == false) len s

/-- R160, opcode 0x50: BVC. -/
def execBvc (s : State) : StepOutcome := finish (hardware.ruleBvc 2 s)

/-- R161: BVS, taken if the overflow flag is 1. -/
def Params.ruleBvs (ps : Params) (len : Nat) (s : State) : Except Fault State :=
  ps.branch (getFlag s.p .overflow == true) len s

/-- R161, opcode 0x70: BVS. -/
def execBvs (s : State) : StepOutcome := finish (hardware.ruleBvs 2 s)

end Sys2Proof.Machine
end

