-- ==== Sys2Proof/Machine/ShiftRotate.lean ====
section
/-! DEFINITION. 43_shift_rotate.md: ASL, LSR, ROL, ROR on the accumulator or memory (R137 to R141). -/

namespace Sys2Proof.Machine

open Sys2Proof

/-- R137 to R141, R146, R149: the shared read-modify-write instruction, then the advance. -/
def Params.modifyAndAdvance (ps : Params) (f : Byte → Byte → Byte × Byte) (m : AddressingMode) (len : Nat) (s : State) :
    Except Fault State := do
  let s ← ps.readModifyWrite m f s
  ps.advance len s

/-- R138: ASL. -/
def Params.ruleAsl (ps : Params) (m : AddressingMode) (len : Nat) (s : State) : Except Fault State :=
  ps.modifyAndAdvance aslResult m len s

/-- R138, opcode 0x0A: ASL Accumulator. -/
def execAslAccumulator (s : State) : StepOutcome := finish (hardware.ruleAsl .accumulator 1 s)

/-- R138, opcode 0x06: ASL ZeroPage. -/
def execAslZeroPage (s : State) : StepOutcome := finish (hardware.ruleAsl .zeroPage 2 s)

/-- R138, opcode 0x16: ASL ZeroPage_X. -/
def execAslZeroPageX (s : State) : StepOutcome := finish (hardware.ruleAsl .zeroPageX 2 s)

/-- R138, opcode 0x0E: ASL Absolute. -/
def execAslAbsolute (s : State) : StepOutcome := finish (hardware.ruleAsl .absolute 3 s)

/-- R138, opcode 0x1E: ASL Absolute_X. -/
def execAslAbsoluteX (s : State) : StepOutcome := finish (hardware.ruleAsl .absoluteX 3 s)

/-- R139: LSR. -/
def Params.ruleLsr (ps : Params) (m : AddressingMode) (len : Nat) (s : State) : Except Fault State :=
  ps.modifyAndAdvance lsrResult m len s

/-- R139, opcode 0x4A: LSR Accumulator. -/
def execLsrAccumulator (s : State) : StepOutcome := finish (hardware.ruleLsr .accumulator 1 s)

/-- R139, opcode 0x46: LSR ZeroPage. -/
def execLsrZeroPage (s : State) : StepOutcome := finish (hardware.ruleLsr .zeroPage 2 s)

/-- R139, opcode 0x56: LSR ZeroPage_X. -/
def execLsrZeroPageX (s : State) : StepOutcome := finish (hardware.ruleLsr .zeroPageX 2 s)

/-- R139, opcode 0x4E: LSR Absolute. -/
def execLsrAbsolute (s : State) : StepOutcome := finish (hardware.ruleLsr .absolute 3 s)

/-- R139, opcode 0x5E: LSR Absolute_X. -/
def execLsrAbsoluteX (s : State) : StepOutcome := finish (hardware.ruleLsr .absoluteX 3 s)

/-- R140: ROL. -/
def Params.ruleRol (ps : Params) (m : AddressingMode) (len : Nat) (s : State) : Except Fault State :=
  ps.modifyAndAdvance rolResult m len s

/-- R140, opcode 0x2A: ROL Accumulator. -/
def execRolAccumulator (s : State) : StepOutcome := finish (hardware.ruleRol .accumulator 1 s)

/-- R140, opcode 0x26: ROL ZeroPage. -/
def execRolZeroPage (s : State) : StepOutcome := finish (hardware.ruleRol .zeroPage 2 s)

/-- R140, opcode 0x36: ROL ZeroPage_X. -/
def execRolZeroPageX (s : State) : StepOutcome := finish (hardware.ruleRol .zeroPageX 2 s)

/-- R140, opcode 0x2E: ROL Absolute. -/
def execRolAbsolute (s : State) : StepOutcome := finish (hardware.ruleRol .absolute 3 s)

/-- R140, opcode 0x3E: ROL Absolute_X. -/
def execRolAbsoluteX (s : State) : StepOutcome := finish (hardware.ruleRol .absoluteX 3 s)

/-- R141: ROR. -/
def Params.ruleRor (ps : Params) (m : AddressingMode) (len : Nat) (s : State) : Except Fault State :=
  ps.modifyAndAdvance rorResult m len s

/-- R141, opcode 0x6A: ROR Accumulator. -/
def execRorAccumulator (s : State) : StepOutcome := finish (hardware.ruleRor .accumulator 1 s)

/-- R141, opcode 0x66: ROR ZeroPage. -/
def execRorZeroPage (s : State) : StepOutcome := finish (hardware.ruleRor .zeroPage 2 s)

/-- R141, opcode 0x76: ROR ZeroPage_X. -/
def execRorZeroPageX (s : State) : StepOutcome := finish (hardware.ruleRor .zeroPageX 2 s)

/-- R141, opcode 0x6E: ROR Absolute. -/
def execRorAbsolute (s : State) : StepOutcome := finish (hardware.ruleRor .absolute 3 s)

/-- R141, opcode 0x7E: ROR Absolute_X. -/
def execRorAbsoluteX (s : State) : StepOutcome := finish (hardware.ruleRor .absoluteX 3 s)

end Sys2Proof.Machine
end

