-- ==== Sys2Proof/Machine/CompareIncDecBit.lean ====
section
/-! DEFINITION. 44_compare_incdec_bit.md: CMP, CPX, CPY, INC, INX, INY, DEC, DEX, DEY, BIT (R142 to R152). -/

namespace Sys2Proof.Machine

open Sys2Proof

/-- R143 to R145: the shared compare of a register value; no register is written. -/
def Params.compareWith (ps : Params) (reg : Byte) (m : AddressingMode) (len : Nat) (s : State) :
    Except Fault State := do
  let val ← ps.readMemoryOperand m s
  ps.advance len (s.setP (ps.compareFlags s.p reg val))

/-- R147, R148, R150, R151: the shared increment or decrement of an index register, `f` the step on P and the register's
value. -/
def Params.stepRegister (ps : Params) (set : State → Byte → State) (f : Byte → Byte → Byte × Byte) (v : Byte)
    (len : Nat) (s : State) : Except Fault State :=
  let r := f s.p v
  ps.advance len ((set s r.1).setP r.2)

/-- R143: CMP. -/
def Params.ruleCmp (ps : Params) (m : AddressingMode) (len : Nat) (s : State) : Except Fault State :=
  ps.compareWith s.a m len s

/-- R143, opcode 0xC9: CMP Immediate. -/
def execCmpImmediate (s : State) : StepOutcome := finish (hardware.ruleCmp .immediate 2 s)

/-- R143, opcode 0xC5: CMP ZeroPage. -/
def execCmpZeroPage (s : State) : StepOutcome := finish (hardware.ruleCmp .zeroPage 2 s)

/-- R143, opcode 0xD5: CMP ZeroPage_X. -/
def execCmpZeroPageX (s : State) : StepOutcome := finish (hardware.ruleCmp .zeroPageX 2 s)

/-- R143, opcode 0xCD: CMP Absolute. -/
def execCmpAbsolute (s : State) : StepOutcome := finish (hardware.ruleCmp .absolute 3 s)

/-- R143, opcode 0xDD: CMP Absolute_X. -/
def execCmpAbsoluteX (s : State) : StepOutcome := finish (hardware.ruleCmp .absoluteX 3 s)

/-- R143, opcode 0xD9: CMP Absolute_Y. -/
def execCmpAbsoluteY (s : State) : StepOutcome := finish (hardware.ruleCmp .absoluteY 3 s)

/-- R143, opcode 0xC1: CMP Indirect_X. -/
def execCmpIndirectX (s : State) : StepOutcome := finish (hardware.ruleCmp .indirectX 2 s)

/-- R143, opcode 0xD1: CMP Indirect_Y. -/
def execCmpIndirectY (s : State) : StepOutcome := finish (hardware.ruleCmp .indirectY 2 s)

/-- R144: CPX. -/
def Params.ruleCpx (ps : Params) (m : AddressingMode) (len : Nat) (s : State) : Except Fault State :=
  ps.compareWith s.x m len s

/-- R144, opcode 0xE0: CPX Immediate. -/
def execCpxImmediate (s : State) : StepOutcome := finish (hardware.ruleCpx .immediate 2 s)

/-- R144, opcode 0xE4: CPX ZeroPage. -/
def execCpxZeroPage (s : State) : StepOutcome := finish (hardware.ruleCpx .zeroPage 2 s)

/-- R144, opcode 0xEC: CPX Absolute. -/
def execCpxAbsolute (s : State) : StepOutcome := finish (hardware.ruleCpx .absolute 3 s)

/-- R145: CPY. -/
def Params.ruleCpy (ps : Params) (m : AddressingMode) (len : Nat) (s : State) : Except Fault State :=
  ps.compareWith s.y m len s

/-- R145, opcode 0xC0: CPY Immediate. -/
def execCpyImmediate (s : State) : StepOutcome := finish (hardware.ruleCpy .immediate 2 s)

/-- R145, opcode 0xC4: CPY ZeroPage. -/
def execCpyZeroPage (s : State) : StepOutcome := finish (hardware.ruleCpy .zeroPage 2 s)

/-- R145, opcode 0xCC: CPY Absolute. -/
def execCpyAbsolute (s : State) : StepOutcome := finish (hardware.ruleCpy .absolute 3 s)

/-- R146: INC. -/
def Params.ruleInc (ps : Params) (m : AddressingMode) (len : Nat) (s : State) : Except Fault State :=
  ps.modifyAndAdvance incResult m len s

/-- R146, opcode 0xE6: INC ZeroPage. -/
def execIncZeroPage (s : State) : StepOutcome := finish (hardware.ruleInc .zeroPage 2 s)

/-- R146, opcode 0xF6: INC ZeroPage_X. -/
def execIncZeroPageX (s : State) : StepOutcome := finish (hardware.ruleInc .zeroPageX 2 s)

/-- R146, opcode 0xEE: INC Absolute. -/
def execIncAbsolute (s : State) : StepOutcome := finish (hardware.ruleInc .absolute 3 s)

/-- R146, opcode 0xFE: INC Absolute_X. -/
def execIncAbsoluteX (s : State) : StepOutcome := finish (hardware.ruleInc .absoluteX 3 s)

/-- R147: INX. -/
def Params.ruleInx (ps : Params) (len : Nat) (s : State) : Except Fault State :=
  ps.stepRegister State.setX incResult s.x len s

/-- R147, opcode 0xE8: INX. -/
def execInx (s : State) : StepOutcome := finish (hardware.ruleInx 1 s)

/-- R148: INY. -/
def Params.ruleIny (ps : Params) (len : Nat) (s : State) : Except Fault State :=
  ps.stepRegister State.setY incResult s.y len s

/-- R148, opcode 0xC8: INY. -/
def execIny (s : State) : StepOutcome := finish (hardware.ruleIny 1 s)

/-- R149: DEC. -/
def Params.ruleDec (ps : Params) (m : AddressingMode) (len : Nat) (s : State) : Except Fault State :=
  ps.modifyAndAdvance decResult m len s

/-- R149, opcode 0xC6: DEC ZeroPage. -/
def execDecZeroPage (s : State) : StepOutcome := finish (hardware.ruleDec .zeroPage 2 s)

/-- R149, opcode 0xD6: DEC ZeroPage_X. -/
def execDecZeroPageX (s : State) : StepOutcome := finish (hardware.ruleDec .zeroPageX 2 s)

/-- R149, opcode 0xCE: DEC Absolute. -/
def execDecAbsolute (s : State) : StepOutcome := finish (hardware.ruleDec .absolute 3 s)

/-- R149, opcode 0xDE: DEC Absolute_X. -/
def execDecAbsoluteX (s : State) : StepOutcome := finish (hardware.ruleDec .absoluteX 3 s)

/-- R150: DEX. -/
def Params.ruleDex (ps : Params) (len : Nat) (s : State) : Except Fault State :=
  ps.stepRegister State.setX decResult s.x len s

/-- R150, opcode 0xCA: DEX. -/
def execDex (s : State) : StepOutcome := finish (hardware.ruleDex 1 s)

/-- R151: DEY. -/
def Params.ruleDey (ps : Params) (len : Nat) (s : State) : Except Fault State :=
  ps.stepRegister State.setY decResult s.y len s

/-- R151, opcode 0x88: DEY. -/
def execDey (s : State) : StepOutcome := finish (hardware.ruleDey 1 s)

/-- R152: BIT; neither A nor memory is written. -/
def Params.ruleBit (ps : Params) (m : AddressingMode) (len : Nat) (s : State) : Except Fault State := do
  let val ← ps.readMemoryOperand m s
  ps.advance len (s.setP (bitFlags s.p s.a val))

/-- R152, opcode 0x24: BIT ZeroPage. -/
def execBitZeroPage (s : State) : StepOutcome := finish (hardware.ruleBit .zeroPage 2 s)

/-- R152, opcode 0x2C: BIT Absolute. -/
def execBitAbsolute (s : State) : StepOutcome := finish (hardware.ruleBit .absolute 3 s)

end Sys2Proof.Machine
end

