-- ==== Sys2Proof/Machine/FlagsNopBrk.lean ====
section
/-! DEFINITION. 48_flags_nop_brk.md: the flag instructions, NOP and BRK (R170 to R178). -/

namespace Sys2Proof.Machine

open Sys2Proof

/-- R170 to R176: the shared flag instruction: one flag is written, the others keep their values. -/
def Params.writeFlag (ps : Params) (f : Flag) (b : Bool) (len : Nat) (s : State) : Except Fault State :=
  ps.advance len (s.setP (setFlag s.p f b))

/-- R170: SEC. -/
def Params.ruleSec (ps : Params) (len : Nat) (s : State) : Except Fault State := ps.writeFlag .carry true len s

/-- R170, opcode 0x38: SEC. -/
def execSec (s : State) : StepOutcome := finish (hardware.ruleSec 1 s)

/-- R171: CLC. -/
def Params.ruleClc (ps : Params) (len : Nat) (s : State) : Except Fault State := ps.writeFlag .carry false len s

/-- R171, opcode 0x18: CLC. -/
def execClc (s : State) : StepOutcome := finish (hardware.ruleClc 1 s)

/-- R172: SED. -/
def Params.ruleSed (ps : Params) (len : Nat) (s : State) : Except Fault State := ps.writeFlag .decimal true len s

/-- R172, opcode 0xF8: SED. -/
def execSed (s : State) : StepOutcome := finish (hardware.ruleSed 1 s)

/-- R173: CLD. -/
def Params.ruleCld (ps : Params) (len : Nat) (s : State) : Except Fault State := ps.writeFlag .decimal false len s

/-- R173, opcode 0xD8: CLD. -/
def execCld (s : State) : StepOutcome := finish (hardware.ruleCld 1 s)

/-- R174: SEI. -/
def Params.ruleSei (ps : Params) (len : Nat) (s : State) : Except Fault State :=
  ps.writeFlag .interruptDisable true len s

/-- R174, opcode 0x78: SEI. -/
def execSei (s : State) : StepOutcome := finish (hardware.ruleSei 1 s)

/-- R175: CLI. -/
def Params.ruleCli (ps : Params) (len : Nat) (s : State) : Except Fault State :=
  ps.writeFlag .interruptDisable false len s

/-- R175, opcode 0x58: CLI. -/
def execCli (s : State) : StepOutcome := finish (hardware.ruleCli 1 s)

/-- R176: CLV. -/
def Params.ruleClv (ps : Params) (len : Nat) (s : State) : Except Fault State := ps.writeFlag .overflow false len s

/-- R176, opcode 0xB8: CLV. -/
def execClv (s : State) : StepOutcome := finish (hardware.ruleClv 1 s)

/-- R177: NOP: it advances PC only. -/
def Params.ruleNop (ps : Params) (len : Nat) (s : State) : Except Fault State := ps.advance len s

/-- R177, opcode 0xEA: NOP. -/
def execNop (s : State) : StepOutcome := finish (hardware.ruleNop 1 s)

/-- R178: BRK, a halt: no push, no vector, no flag; PC stays at its address plus 1. The outcome `Halt` (R94, R95) is a next
state whose run status is Idle (DESIGN CHOICE, log 2). -/
def Params.ruleBrk (ps : Params) (len : Nat) (s : State) : Except Fault State := do
  let s ← ps.advance len s
  .ok (s.setStatus .idle)

/-- R178, opcode 0x00: BRK. -/
def execBrk (s : State) : StepOutcome := finish (hardware.ruleBrk 1 s)

end Sys2Proof.Machine
end

