-- ==== Sys2Proof/Machine/JumpCallReturn.lean ====
section
/-! DEFINITION. 46_jump_call_return.md: JMP, JSR, RTS (R162 to R164). -/

namespace Sys2Proof.Machine

open Sys2Proof

/-- R162: JMP; PC is overwritten, not advanced. -/
def Params.ruleJmp (ps : Params) (m : AddressingMode) (s : State) : Except Fault State := do
  let target ← ps.resolve m s
  .ok (s.setPc target)

/-- R162, opcode 0x4C: JMP Absolute. -/
def execJmpAbsolute (s : State) : StepOutcome := finish (hardware.ruleJmp .absolute s)

/-- R162, opcode 0x6C: JMP Indirect. -/
def execJmpIndirect (s : State) : StepOutcome := finish (hardware.ruleJmp .indirect s)

/-- R163: JSR: it pushes the address of its last byte, then reads the target (D20). -/
def Params.ruleJsr (ps : Params) (len : Nat) (s : State) : Except Fault State := do
  let ret ← ps.addrStep s.opAddr s.pc ((len : Int) - 2)
  let s ← s.push16 ret
  let target ← ps.resolve .absolute s
  .ok (s.setPc target)

/-- R163, opcode 0x20: JSR. -/
def execJsr (s : State) : StepOutcome := finish (hardware.ruleJsr 3 s)

/-- R164: RTS: it adds 1 to the popped address. -/
def Params.ruleRts (ps : Params) (s : State) : Except Fault State := do
  let (ret, t) ← s.pop16
  let pc ← ps.addrStep s.opAddr ret 1
  .ok (t.setPc pc)

/-- R164, opcode 0x60: RTS. -/
def execRts (s : State) : StepOutcome := finish (hardware.ruleRts s)

end Sys2Proof.Machine
end

