-- ==== Sys2Proof/Machine/LoadStoreTransfer.lean ====
section
/-! DEFINITION. 41_load_store_transfer.md: loads, stores and transfers (R118 to R130). -/

namespace Sys2Proof.Machine

open Sys2Proof

/-- R119 to R121: the shared load: the operand byte into a register, Z and N from it. -/
def Params.loadInto (ps : Params) (set : State → Byte → State) (m : AddressingMode) (len : Nat) (s : State) :
    Except Fault State := do
  let v ← ps.readMemoryOperand m s
  ps.advance len ((set s v).setP (setZN s.p v))

/-- R122 to R124: the shared store of a register; no flag is written. -/
def Params.storeFrom (ps : Params) (v : Byte) (m : AddressingMode) (len : Nat) (s : State) : Except Fault State := do
  let addr ← ps.resolve m s
  ps.advance len (s.write addr v)

/-- R125 to R129: the shared transfer that sets Z and N from the value copied. -/
def Params.transferInto (ps : Params) (set : State → Byte → State) (v : Byte) (len : Nat) (s : State) :
    Except Fault State :=
  ps.advance len ((set s v).setP (setZN s.p v))

/-- R119: LDA. -/
def Params.ruleLda (ps : Params) (m : AddressingMode) (len : Nat) (s : State) : Except Fault State :=
  ps.loadInto State.setA m len s

/-- R119, opcode 0xA9: LDA Immediate. -/
def execLdaImmediate (s : State) : StepOutcome := finish (hardware.ruleLda .immediate 2 s)

/-- R119, opcode 0xA5: LDA ZeroPage. -/
def execLdaZeroPage (s : State) : StepOutcome := finish (hardware.ruleLda .zeroPage 2 s)

/-- R119, opcode 0xB5: LDA ZeroPage_X. -/
def execLdaZeroPageX (s : State) : StepOutcome := finish (hardware.ruleLda .zeroPageX 2 s)

/-- R119, opcode 0xAD: LDA Absolute. -/
def execLdaAbsolute (s : State) : StepOutcome := finish (hardware.ruleLda .absolute 3 s)

/-- R119, opcode 0xBD: LDA Absolute_X. -/
def execLdaAbsoluteX (s : State) : StepOutcome := finish (hardware.ruleLda .absoluteX 3 s)

/-- R119, opcode 0xB9: LDA Absolute_Y. -/
def execLdaAbsoluteY (s : State) : StepOutcome := finish (hardware.ruleLda .absoluteY 3 s)

/-- R119, opcode 0xA1: LDA Indirect_X. -/
def execLdaIndirectX (s : State) : StepOutcome := finish (hardware.ruleLda .indirectX 2 s)

/-- R119, opcode 0xB1: LDA Indirect_Y. -/
def execLdaIndirectY (s : State) : StepOutcome := finish (hardware.ruleLda .indirectY 2 s)

/-- R120: LDX. -/
def Params.ruleLdx (ps : Params) (m : AddressingMode) (len : Nat) (s : State) : Except Fault State :=
  ps.loadInto State.setX m len s

/-- R120, opcode 0xA2: LDX Immediate. -/
def execLdxImmediate (s : State) : StepOutcome := finish (hardware.ruleLdx .immediate 2 s)

/-- R120, opcode 0xA6: LDX ZeroPage. -/
def execLdxZeroPage (s : State) : StepOutcome := finish (hardware.ruleLdx .zeroPage 2 s)

/-- R120, opcode 0xB6: LDX ZeroPage_Y. -/
def execLdxZeroPageY (s : State) : StepOutcome := finish (hardware.ruleLdx .zeroPageY 2 s)

/-- R120, opcode 0xAE: LDX Absolute. -/
def execLdxAbsolute (s : State) : StepOutcome := finish (hardware.ruleLdx .absolute 3 s)

/-- R120, opcode 0xBE: LDX Absolute_Y. -/
def execLdxAbsoluteY (s : State) : StepOutcome := finish (hardware.ruleLdx .absoluteY 3 s)

/-- R121: LDY. -/
def Params.ruleLdy (ps : Params) (m : AddressingMode) (len : Nat) (s : State) : Except Fault State :=
  ps.loadInto State.setY m len s

/-- R121, opcode 0xA0: LDY Immediate. -/
def execLdyImmediate (s : State) : StepOutcome := finish (hardware.ruleLdy .immediate 2 s)

/-- R121, opcode 0xA4: LDY ZeroPage. -/
def execLdyZeroPage (s : State) : StepOutcome := finish (hardware.ruleLdy .zeroPage 2 s)

/-- R121, opcode 0xB4: LDY ZeroPage_X. -/
def execLdyZeroPageX (s : State) : StepOutcome := finish (hardware.ruleLdy .zeroPageX 2 s)

/-- R121, opcode 0xAC: LDY Absolute. -/
def execLdyAbsolute (s : State) : StepOutcome := finish (hardware.ruleLdy .absolute 3 s)

/-- R121, opcode 0xBC: LDY Absolute_X. -/
def execLdyAbsoluteX (s : State) : StepOutcome := finish (hardware.ruleLdy .absoluteX 3 s)

/-- R122: STA. -/
def Params.ruleSta (ps : Params) (m : AddressingMode) (len : Nat) (s : State) : Except Fault State :=
  ps.storeFrom s.a m len s

/-- R122, opcode 0x85: STA ZeroPage. -/
def execStaZeroPage (s : State) : StepOutcome := finish (hardware.ruleSta .zeroPage 2 s)

/-- R122, opcode 0x95: STA ZeroPage_X. -/
def execStaZeroPageX (s : State) : StepOutcome := finish (hardware.ruleSta .zeroPageX 2 s)

/-- R122, opcode 0x8D: STA Absolute. -/
def execStaAbsolute (s : State) : StepOutcome := finish (hardware.ruleSta .absolute 3 s)

/-- R122, opcode 0x9D: STA Absolute_X. -/
def execStaAbsoluteX (s : State) : StepOutcome := finish (hardware.ruleSta .absoluteX 3 s)

/-- R122, opcode 0x99: STA Absolute_Y. -/
def execStaAbsoluteY (s : State) : StepOutcome := finish (hardware.ruleSta .absoluteY 3 s)

/-- R122, opcode 0x81: STA Indirect_X. -/
def execStaIndirectX (s : State) : StepOutcome := finish (hardware.ruleSta .indirectX 2 s)

/-- R122, opcode 0x91: STA Indirect_Y. -/
def execStaIndirectY (s : State) : StepOutcome := finish (hardware.ruleSta .indirectY 2 s)

/-- R123: STX. -/
def Params.ruleStx (ps : Params) (m : AddressingMode) (len : Nat) (s : State) : Except Fault State :=
  ps.storeFrom s.x m len s

/-- R123, opcode 0x86: STX ZeroPage. -/
def execStxZeroPage (s : State) : StepOutcome := finish (hardware.ruleStx .zeroPage 2 s)

/-- R123, opcode 0x96: STX ZeroPage_Y. -/
def execStxZeroPageY (s : State) : StepOutcome := finish (hardware.ruleStx .zeroPageY 2 s)

/-- R123, opcode 0x8E: STX Absolute. -/
def execStxAbsolute (s : State) : StepOutcome := finish (hardware.ruleStx .absolute 3 s)

/-- R124: STY. -/
def Params.ruleSty (ps : Params) (m : AddressingMode) (len : Nat) (s : State) : Except Fault State :=
  ps.storeFrom s.y m len s

/-- R124, opcode 0x84: STY ZeroPage. -/
def execStyZeroPage (s : State) : StepOutcome := finish (hardware.ruleSty .zeroPage 2 s)

/-- R124, opcode 0x94: STY ZeroPage_X. -/
def execStyZeroPageX (s : State) : StepOutcome := finish (hardware.ruleSty .zeroPageX 2 s)

/-- R124, opcode 0x8C: STY Absolute. -/
def execStyAbsolute (s : State) : StepOutcome := finish (hardware.ruleSty .absolute 3 s)

/-- R125: TAX, A to X. -/
def Params.ruleTax (ps : Params) (len : Nat) (s : State) : Except Fault State := ps.transferInto State.setX s.a len s

/-- R125, opcode 0xAA: TAX. -/
def execTax (s : State) : StepOutcome := finish (hardware.ruleTax 1 s)

/-- R126: TAY, A to Y. -/
def Params.ruleTay (ps : Params) (len : Nat) (s : State) : Except Fault State := ps.transferInto State.setY s.a len s

/-- R126, opcode 0xA8: TAY. -/
def execTay (s : State) : StepOutcome := finish (hardware.ruleTay 1 s)

/-- R127: TXA, X to A. -/
def Params.ruleTxa (ps : Params) (len : Nat) (s : State) : Except Fault State := ps.transferInto State.setA s.x len s

/-- R127, opcode 0x8A: TXA. -/
def execTxa (s : State) : StepOutcome := finish (hardware.ruleTxa 1 s)

/-- R128: TYA, Y to A. -/
def Params.ruleTya (ps : Params) (len : Nat) (s : State) : Except Fault State := ps.transferInto State.setA s.y len s

/-- R128, opcode 0x98: TYA. -/
def execTya (s : State) : StepOutcome := finish (hardware.ruleTya 1 s)

/-- R129: TSX, S to X. -/
def Params.ruleTsx (ps : Params) (len : Nat) (s : State) : Except Fault State := ps.transferInto State.setX s.sp len s

/-- R129, opcode 0xBA: TSX. -/
def execTsx (s : State) : StepOutcome := finish (hardware.ruleTsx 1 s)

/-- R130: TXS, X to S; no flag is written, and it never faults. -/
def Params.ruleTxs (ps : Params) (len : Nat) (s : State) : Except Fault State := ps.advance len (s.setSp s.x)

/-- R130, opcode 0x9A: TXS. -/
def execTxs (s : State) : StepOutcome := finish (hardware.ruleTxs 1 s)

end Sys2Proof.Machine
end

