-- ==== Sys2Proof/Machine/StackRti.lean ====
section
/-! DEFINITION. 47_stack_rti.md: PHA, PLA, PHP, PLP, RTI (R165 to R169). -/

namespace Sys2Proof.Machine

open Sys2Proof

/-- R165: PHA. -/
def Params.rulePha (ps : Params) (len : Nat) (s : State) : Except Fault State := do
  let s ← s.push s.a
  ps.advance len s

/-- R165, opcode 0x48: PHA. -/
def execPha (s : State) : StepOutcome := finish (hardware.rulePha 1 s)

/-- R166: PLA. -/
def Params.rulePla (ps : Params) (len : Nat) (s : State) : Except Fault State := do
  let (v, s) ← s.pop
  ps.advance len ((s.setA v).setP (setZN s.p v))

/-- R166, opcode 0x68: PLA. -/
def execPla (s : State) : StepOutcome := finish (hardware.rulePla 1 s)

/-- R167: PHP; P itself is unchanged. -/
def Params.rulePhp (ps : Params) (len : Nat) (s : State) : Except Fault State := do
  let s ← s.push (pushedStatus s.p)
  ps.advance len s

/-- R167, opcode 0x08: PHP. -/
def execPhp (s : State) : StepOutcome := finish (hardware.rulePhp 1 s)

/-- R168: PLP. -/
def Params.rulePlp (ps : Params) (len : Nat) (s : State) : Except Fault State := do
  let (v, s) ← s.pop
  ps.advance len (s.setP (pulledStatus v))

/-- R168, opcode 0x28: PLP. -/
def execPlp (s : State) : StepOutcome := finish (hardware.rulePlp 1 s)

/-- R169: RTI, the return from interrupt: P as PLP, then PC, low byte first and no 1 added. -/
def ruleRti (s : State) : Except Fault State := do
  let (v, s) ← s.pop
  let (pc, s) ← (s.setP (pulledStatus v)).pop16
  .ok (s.setPc pc)

/-- R169, opcode 0x40: RTI. -/
def execRti (s : State) : StepOutcome := finish (ruleRti s)

end Sys2Proof.Machine
end

