-- ==== Sys2Proof/Machine/Dispatch.lean ====
section
/-! DEFINITION. One arm per instruction variant (40_execution_loop.md R88, `Execute`). The state an arm is given has PC at
the address of the first operand byte, the opcode's address plus 1 (R89). -/

namespace Sys2Proof.Machine

open Sys2Proof

def exec (i : Instr) (s : State) : Host.Outcome State Fault Refusal :=
  match i with
  -- R119
  | .ldaImmediate => Sys2Proof.Machine.execLdaImmediate s
  | .ldaZeroPage => Sys2Proof.Machine.execLdaZeroPage s
  | .ldaZeroPageX => Sys2Proof.Machine.execLdaZeroPageX s
  | .ldaAbsolute => Sys2Proof.Machine.execLdaAbsolute s
  | .ldaAbsoluteX => Sys2Proof.Machine.execLdaAbsoluteX s
  | .ldaAbsoluteY => Sys2Proof.Machine.execLdaAbsoluteY s
  | .ldaIndirectX => Sys2Proof.Machine.execLdaIndirectX s
  | .ldaIndirectY => Sys2Proof.Machine.execLdaIndirectY s
  -- R120
  | .ldxImmediate => Sys2Proof.Machine.execLdxImmediate s
  | .ldxZeroPage => Sys2Proof.Machine.execLdxZeroPage s
  | .ldxZeroPageY => Sys2Proof.Machine.execLdxZeroPageY s
  | .ldxAbsolute => Sys2Proof.Machine.execLdxAbsolute s
  | .ldxAbsoluteY => Sys2Proof.Machine.execLdxAbsoluteY s
  -- R121
  | .ldyImmediate => Sys2Proof.Machine.execLdyImmediate s
  | .ldyZeroPage => Sys2Proof.Machine.execLdyZeroPage s
  | .ldyZeroPageX => Sys2Proof.Machine.execLdyZeroPageX s
  | .ldyAbsolute => Sys2Proof.Machine.execLdyAbsolute s
  | .ldyAbsoluteX => Sys2Proof.Machine.execLdyAbsoluteX s
  -- R122
  | .staZeroPage => Sys2Proof.Machine.execStaZeroPage s
  | .staZeroPageX => Sys2Proof.Machine.execStaZeroPageX s
  | .staAbsolute => Sys2Proof.Machine.execStaAbsolute s
  | .staAbsoluteX => Sys2Proof.Machine.execStaAbsoluteX s
  | .staAbsoluteY => Sys2Proof.Machine.execStaAbsoluteY s
  | .staIndirectX => Sys2Proof.Machine.execStaIndirectX s
  | .staIndirectY => Sys2Proof.Machine.execStaIndirectY s
  -- R123
  | .stxZeroPage => Sys2Proof.Machine.execStxZeroPage s
  | .stxZeroPageY => Sys2Proof.Machine.execStxZeroPageY s
  | .stxAbsolute => Sys2Proof.Machine.execStxAbsolute s
  -- R124
  | .styZeroPage => Sys2Proof.Machine.execStyZeroPage s
  | .styZeroPageX => Sys2Proof.Machine.execStyZeroPageX s
  | .styAbsolute => Sys2Proof.Machine.execStyAbsolute s
  -- R125
  | .tax => Sys2Proof.Machine.execTax s
  -- R126
  | .tay => Sys2Proof.Machine.execTay s
  -- R127
  | .txa => Sys2Proof.Machine.execTxa s
  -- R128
  | .tya => Sys2Proof.Machine.execTya s
  -- R129
  | .tsx => Sys2Proof.Machine.execTsx s
  -- R130
  | .txs => Sys2Proof.Machine.execTxs s
  -- R132
  | .adcImmediate => Sys2Proof.Machine.execAdcImmediate s
  | .adcZeroPage => Sys2Proof.Machine.execAdcZeroPage s
  | .adcZeroPageX => Sys2Proof.Machine.execAdcZeroPageX s
  | .adcAbsolute => Sys2Proof.Machine.execAdcAbsolute s
  | .adcAbsoluteX => Sys2Proof.Machine.execAdcAbsoluteX s
  | .adcAbsoluteY => Sys2Proof.Machine.execAdcAbsoluteY s
  | .adcIndirectX => Sys2Proof.Machine.execAdcIndirectX s
  | .adcIndirectY => Sys2Proof.Machine.execAdcIndirectY s
  -- R133
  | .sbcImmediate => Sys2Proof.Machine.execSbcImmediate s
  | .sbcZeroPage => Sys2Proof.Machine.execSbcZeroPage s
  | .sbcZeroPageX => Sys2Proof.Machine.execSbcZeroPageX s
  | .sbcAbsolute => Sys2Proof.Machine.execSbcAbsolute s
  | .sbcAbsoluteX => Sys2Proof.Machine.execSbcAbsoluteX s
  | .sbcAbsoluteY => Sys2Proof.Machine.execSbcAbsoluteY s
  | .sbcIndirectX => Sys2Proof.Machine.execSbcIndirectX s
  | .sbcIndirectY => Sys2Proof.Machine.execSbcIndirectY s
  -- R134
  | .andImmediate => Sys2Proof.Machine.execAndImmediate s
  | .andZeroPage => Sys2Proof.Machine.execAndZeroPage s
  | .andZeroPageX => Sys2Proof.Machine.execAndZeroPageX s
  | .andAbsolute => Sys2Proof.Machine.execAndAbsolute s
  | .andAbsoluteX => Sys2Proof.Machine.execAndAbsoluteX s
  | .andAbsoluteY => Sys2Proof.Machine.execAndAbsoluteY s
  | .andIndirectX => Sys2Proof.Machine.execAndIndirectX s
  | .andIndirectY => Sys2Proof.Machine.execAndIndirectY s
  -- R135
  | .oraImmediate => Sys2Proof.Machine.execOraImmediate s
  | .oraZeroPage => Sys2Proof.Machine.execOraZeroPage s
  | .oraZeroPageX => Sys2Proof.Machine.execOraZeroPageX s
  | .oraAbsolute => Sys2Proof.Machine.execOraAbsolute s
  | .oraAbsoluteX => Sys2Proof.Machine.execOraAbsoluteX s
  | .oraAbsoluteY => Sys2Proof.Machine.execOraAbsoluteY s
  | .oraIndirectX => Sys2Proof.Machine.execOraIndirectX s
  | .oraIndirectY => Sys2Proof.Machine.execOraIndirectY s
  -- R136
  | .eorImmediate => Sys2Proof.Machine.execEorImmediate s
  | .eorZeroPage => Sys2Proof.Machine.execEorZeroPage s
  | .eorZeroPageX => Sys2Proof.Machine.execEorZeroPageX s
  | .eorAbsolute => Sys2Proof.Machine.execEorAbsolute s
  | .eorAbsoluteX => Sys2Proof.Machine.execEorAbsoluteX s
  | .eorAbsoluteY => Sys2Proof.Machine.execEorAbsoluteY s
  | .eorIndirectX => Sys2Proof.Machine.execEorIndirectX s
  | .eorIndirectY => Sys2Proof.Machine.execEorIndirectY s
  -- R138
  | .aslAccumulator => Sys2Proof.Machine.execAslAccumulator s
  | .aslZeroPage => Sys2Proof.Machine.execAslZeroPage s
  | .aslZeroPageX => Sys2Proof.Machine.execAslZeroPageX s
  | .aslAbsolute => Sys2Proof.Machine.execAslAbsolute s
  | .aslAbsoluteX => Sys2Proof.Machine.execAslAbsoluteX s
  -- R139
  | .lsrAccumulator => Sys2Proof.Machine.execLsrAccumulator s
  | .lsrZeroPage => Sys2Proof.Machine.execLsrZeroPage s
  | .lsrZeroPageX => Sys2Proof.Machine.execLsrZeroPageX s
  | .lsrAbsolute => Sys2Proof.Machine.execLsrAbsolute s
  | .lsrAbsoluteX => Sys2Proof.Machine.execLsrAbsoluteX s
  -- R140
  | .rolAccumulator => Sys2Proof.Machine.execRolAccumulator s
  | .rolZeroPage => Sys2Proof.Machine.execRolZeroPage s
  | .rolZeroPageX => Sys2Proof.Machine.execRolZeroPageX s
  | .rolAbsolute => Sys2Proof.Machine.execRolAbsolute s
  | .rolAbsoluteX => Sys2Proof.Machine.execRolAbsoluteX s
  -- R141
  | .rorAccumulator => Sys2Proof.Machine.execRorAccumulator s
  | .rorZeroPage => Sys2Proof.Machine.execRorZeroPage s
  | .rorZeroPageX => Sys2Proof.Machine.execRorZeroPageX s
  | .rorAbsolute => Sys2Proof.Machine.execRorAbsolute s
  | .rorAbsoluteX => Sys2Proof.Machine.execRorAbsoluteX s
  -- R143
  | .cmpImmediate => Sys2Proof.Machine.execCmpImmediate s
  | .cmpZeroPage => Sys2Proof.Machine.execCmpZeroPage s
  | .cmpZeroPageX => Sys2Proof.Machine.execCmpZeroPageX s
  | .cmpAbsolute => Sys2Proof.Machine.execCmpAbsolute s
  | .cmpAbsoluteX => Sys2Proof.Machine.execCmpAbsoluteX s
  | .cmpAbsoluteY => Sys2Proof.Machine.execCmpAbsoluteY s
  | .cmpIndirectX => Sys2Proof.Machine.execCmpIndirectX s
  | .cmpIndirectY => Sys2Proof.Machine.execCmpIndirectY s
  -- R144
  | .cpxImmediate => Sys2Proof.Machine.execCpxImmediate s
  | .cpxZeroPage => Sys2Proof.Machine.execCpxZeroPage s
  | .cpxAbsolute => Sys2Proof.Machine.execCpxAbsolute s
  -- R145
  | .cpyImmediate => Sys2Proof.Machine.execCpyImmediate s
  | .cpyZeroPage => Sys2Proof.Machine.execCpyZeroPage s
  | .cpyAbsolute => Sys2Proof.Machine.execCpyAbsolute s
  -- R146
  | .incZeroPage => Sys2Proof.Machine.execIncZeroPage s
  | .incZeroPageX => Sys2Proof.Machine.execIncZeroPageX s
  | .incAbsolute => Sys2Proof.Machine.execIncAbsolute s
  | .incAbsoluteX => Sys2Proof.Machine.execIncAbsoluteX s
  -- R147
  | .inx => Sys2Proof.Machine.execInx s
  -- R148
  | .iny => Sys2Proof.Machine.execIny s
  -- R149
  | .decZeroPage => Sys2Proof.Machine.execDecZeroPage s
  | .decZeroPageX => Sys2Proof.Machine.execDecZeroPageX s
  | .decAbsolute => Sys2Proof.Machine.execDecAbsolute s
  | .decAbsoluteX => Sys2Proof.Machine.execDecAbsoluteX s
  -- R150
  | .dex => Sys2Proof.Machine.execDex s
  -- R151
  | .dey => Sys2Proof.Machine.execDey s
  -- R152
  | .bitZeroPage => Sys2Proof.Machine.execBitZeroPage s
  | .bitAbsolute => Sys2Proof.Machine.execBitAbsolute s
  -- R154
  | .bcc => Sys2Proof.Machine.execBcc s
  -- R155
  | .bcs => Sys2Proof.Machine.execBcs s
  -- R156
  | .beq => Sys2Proof.Machine.execBeq s
  -- R157
  | .bne => Sys2Proof.Machine.execBne s
  -- R158
  | .bmi => Sys2Proof.Machine.execBmi s
  -- R159
  | .bpl => Sys2Proof.Machine.execBpl s
  -- R160
  | .bvc => Sys2Proof.Machine.execBvc s
  -- R161
  | .bvs => Sys2Proof.Machine.execBvs s
  -- R162
  | .jmpAbsolute => Sys2Proof.Machine.execJmpAbsolute s
  | .jmpIndirect => Sys2Proof.Machine.execJmpIndirect s
  -- R163
  | .jsr => Sys2Proof.Machine.execJsr s
  -- R164
  | .rts => Sys2Proof.Machine.execRts s
  -- R165
  | .pha => Sys2Proof.Machine.execPha s
  -- R166
  | .pla => Sys2Proof.Machine.execPla s
  -- R167
  | .php => Sys2Proof.Machine.execPhp s
  -- R168
  | .plp => Sys2Proof.Machine.execPlp s
  -- R169
  | .rti => Sys2Proof.Machine.execRti s
  -- R170
  | .sec => Sys2Proof.Machine.execSec s
  -- R171
  | .clc => Sys2Proof.Machine.execClc s
  -- R172
  | .sed => Sys2Proof.Machine.execSed s
  -- R173
  | .cld => Sys2Proof.Machine.execCld s
  -- R174
  | .sei => Sys2Proof.Machine.execSei s
  -- R175
  | .cli => Sys2Proof.Machine.execCli s
  -- R176
  | .clv => Sys2Proof.Machine.execClv s
  -- R177
  | .nop => Sys2Proof.Machine.execNop s
  -- R178
  | .brk => Sys2Proof.Machine.execBrk s

end Sys2Proof.Machine
end

