-- ==== Sys2Proof/Machine/Fetch.lean ====
section
/-! DEFINITION. The fetch and decode of one instruction (40_execution_loop.md R88 to R91), over a table of opcodes: the
parameter `Catalog` (30_encoding.md R73), or this hardware's rows, which name the variant too. -/

namespace Sys2Proof.Machine

open Sys2Proof

/-- R88, R89, R91: the opcode byte is read at PC, PC advances by 1, and the table of opcodes is asked; the state an
instruction starts from has PC at its first operand byte. -/
def Params.fetch {α : Type} (ps : Params) (lookup : Byte → Option α) (s : State) : Except Fault (α × State) := do
  let pc ← ps.addrStep s.pc s.pc 1
  match lookup (s.read s.pc) with
  | none => .error (.unimplementedOpcode (s.read s.pc) s.pc)
  | some d => .ok (d, s.setPc pc)

/-- R39, R95: a step is taken inside `run`; a step from Idle is `run`'s entry (DESIGN CHOICE, log 2). -/
def State.enterRun (s : State) : State := s.setStatus .running

/-- R88: the step over a table of opcodes and what it runs for an entry. The outcome `Halt` is a next state whose run
status is Idle, every other next state is Running (R95; log 2). A faulted core has no step (60_exceptions.md R185;
log 3). -/
def Params.stepBy {α : Type} (ps : Params) (lookup : Byte → Option α) (run : α → State → StepOutcome) (s : State) :
    StepOutcome :=
  match s.status with
  | .faulted f => .refused (.afterFault f)
  | _ =>
    match ps.fetch lookup s.enterRun with
    | .ok (d, t) => run d t
    | .error f => .fault f

/-- Bytes stored at consecutive addresses from `addr` on, modulo 65536. -/
def Memory.writeBytes (m : Memory) (addr : Word) : List Byte → Memory
  | [] => m
  | b :: bs => Memory.writeBytes (m.write addr b) (addr + 1#16) bs

end Sys2Proof.Machine
end

