-- ==== Sys2Proof/Machine/Trace.lean ====
section
/-! DEFINITION. The trace stream (60_exceptions.md R193, R194): an output of the core, not state. -/

namespace Sys2Proof.Machine

open Sys2Proof

/-- 60_exceptions.md R194: "mnemonic, code, raw operand bytes". -/
structure TraceRecord where
  mnemonic : Mnemonic
  code : Byte
  operands : List Byte
deriving DecidableEq, Repr

/-- The `n` bytes at consecutive addresses from `addr` on, modulo 65536. -/
def State.bytesAt (s : State) (addr : Word) : Nat → List Byte
  | 0 => []
  | n + 1 => s.read addr :: s.bytesAt (addr + 1#16) n

/-- 60_exceptions.md R194: the `n` operand bytes at PC, `PC +16 1` and on. R90 governs each step, so the last one's address
decides whether all are there. -/
def Params.operandBytes (ps : Params) (s : State) : Nat → Except Fault (List Byte)
  | 0 => .ok []
  | n + 1 => do
    let _ ← ps.addrStep s.opAddr s.pc n
    .ok (s.bytesAt s.pc (n + 1))

/-- 40_execution_loop.md R88: the record of the instruction at PC, formed after the fetch's increment and decode and from the
state the instruction starts from. A fetch that raises leaves no record, and neither does an operand address past 0xFFFF
under `Fault` (DESIGN CHOICE, log 22). -/
def Params.traceRecord (ps : Params) (s : State) : Except Fault TraceRecord := do
  let (d, t) ← ps.fetch ps.catalog s
  let operands ← ps.operandBytes t (d.length - 1)
  .ok ⟨d.mnemonic, s.read s.pc, operands⟩

/-- 40_execution_loop.md R92: what a step from this state emits: the record if tracing is enabled. Emitting it changes
neither the state nor the step's outcome (log 11). -/
def Params.emittedRecord (ps : Params) (s : State) : Option TraceRecord :=
  if s.traceEnabled then (ps.traceRecord s).toOption else none

end Sys2Proof.Machine
end

