-- ==== Sys2Proof/Machine/Step.lean ====
section
/-! DEFINITION. One step: one whole instruction (40_execution_loop.md R87, R88). -/

namespace Sys2Proof.Machine

open Sys2Proof

/-- 40_execution_loop.md R88: fetch, decode, execute, by this hardware's catalog; a row of it names the variant whose arm of
`exec` runs. It is the step of the core at this hardware's parameters, `hardware.step` (Laws/Rules.lean). -/
def step (s : State) : Host.Outcome State Fault Refusal := hardware.stepBy entryOf (fun e t => exec e.instr t) s

/-- The state with an instruction's bytes stored where `step` fetches its next instruction, at PC. A faulted core, which
fetches nothing, is made Idle (log 4). -/
def State.withFetchWord (s : State) (nbits w : Nat) : State :=
  let t := s.setMem (s.mem.writeBytes s.pc (tableBytes nbits w))
  match s.status with
  | .faulted _ => t.setStatus .idle
  | _ => t

end Sys2Proof.Machine
end

