-- ==== Sys2Proof/Machine/Execute.lean ====
section
/-! DEFINITION. The core over its named parameters (00_scope.md R10): `Execute` of a catalog entry, and the step
(40_execution_loop.md R88). `Machine.step` is this step at this hardware's parameters (Laws/Rules.lean). -/

namespace Sys2Proof.Machine

open Sys2Proof

/-- 40_execution_loop.md R88, 30_encoding.md R74: `Execute(mnemonic, mode, length)`: the mnemonic selects the rule, the mode
its resolver arm, the length its PC advance. A mode that a rule does not take is checked by the resolver only (R81). -/
def Params.rule (ps : Params) (mn : Mnemonic) (m : AddressingMode) (len : Nat) (s : State) : Except Fault State :=
  match mn with
  | .lda => ps.ruleLda m len s
  | .ldx => ps.ruleLdx m len s
  | .ldy => ps.ruleLdy m len s
  | .sta => ps.ruleSta m len s
  | .stx => ps.ruleStx m len s
  | .sty => ps.ruleSty m len s
  | .tax => ps.ruleTax len s
  | .tay => ps.ruleTay len s
  | .txa => ps.ruleTxa len s
  | .tya => ps.ruleTya len s
  | .tsx => ps.ruleTsx len s
  | .txs => ps.ruleTxs len s
  | .adc => ps.ruleAdc m len s
  | .sbc => ps.ruleSbc m len s
  | .and => ps.ruleAnd m len s
  | .ora => ps.ruleOra m len s
  | .eor => ps.ruleEor m len s
  | .asl => ps.ruleAsl m len s
  | .lsr => ps.ruleLsr m len s
  | .rol => ps.ruleRol m len s
  | .ror => ps.ruleRor m len s
  | .cmp => ps.ruleCmp m len s
  | .cpx => ps.ruleCpx m len s
  | .cpy => ps.ruleCpy m len s
  | .inc => ps.ruleInc m len s
  | .inx => ps.ruleInx len s
  | .iny => ps.ruleIny len s
  | .dec => ps.ruleDec m len s
  | .dex => ps.ruleDex len s
  | .dey => ps.ruleDey len s
  | .bit => ps.ruleBit m len s
  | .bcc => ps.ruleBcc len s
  | .bcs => ps.ruleBcs len s
  | .beq => ps.ruleBeq len s
  | .bne => ps.ruleBne len s
  | .bmi => ps.ruleBmi len s
  | .bpl => ps.ruleBpl len s
  | .bvc => ps.ruleBvc len s
  | .bvs => ps.ruleBvs len s
  | .jmp => ps.ruleJmp m s
  | .jsr => ps.ruleJsr len s
  | .rts => ps.ruleRts s
  | .pha => ps.rulePha len s
  | .pla => ps.rulePla len s
  | .php => ps.rulePhp len s
  | .plp => ps.rulePlp len s
  | .rti => ruleRti s
  | .sec => ps.ruleSec len s
  | .clc => ps.ruleClc len s
  | .sed => ps.ruleSed len s
  | .cld => ps.ruleCld len s
  | .sei => ps.ruleSei len s
  | .cli => ps.ruleCli len s
  | .clv => ps.ruleClv len s
  | .nop => ps.ruleNop len s
  | .brk => ps.ruleBrk len s

/-- R88: what a step runs for a catalog entry. -/
def Params.execute (ps : Params) (d : Descriptor) (s : State) : StepOutcome := finish (ps.rule d.mnemonic d.mode d.length s)

/-- 00_scope.md R8, R10, 30_encoding.md R73: the step of a core with any catalog and any values of the other parameters. -/
def Params.step (ps : Params) (s : State) : StepOutcome := ps.stepBy ps.catalog ps.execute s

end Sys2Proof.Machine
end

