-- ==== Sys2Proof/Machine/HostCommands.lean ====
section
/-! DEFINITION. The host's commands and accessors (00_scope.md R6, 10_state.md R41 to R43, 70_reset_and_hazards.md R197 to
R205). `run` iterates the engine's step; the rest act on the state between runs. -/

namespace Sys2Proof.Machine

open Sys2Proof

/-! ### Reset and load -/

/-- 70_reset_and_hazards.md R198, R199: `reset()`. Y, memory and the trace flag are unchanged; PC is the little-endian
reset vector. -/
def State.resetCommand (s : State) : State :=
  { s with
    a := 0x00#8
    x := 0x00#8
    p := 0x00#8
    pc := concat16 (s.read (Config.resetVector + 1#16)) (s.read Config.resetVector)
    sp := Config.stackReset
    status := .idle }

/-- 70_reset_and_hazards.md R200 to R202: `load(bytes)`: the length check precedes every write (D14), then the copy, then
the vector (D21). -/
def State.load (s : State) (bytes : List Byte) : Except Fault State :=
  if Config.maxImage < bytes.length then .error (.loadTooLarge bytes.length)
  else
    let m := s.mem.writeBytes Config.loadBase bytes
    let m := m.write Config.resetVector (lowByte Config.loadBase)
    .ok (s.setMem (m.write (Config.resetVector + 1#16) (highByte Config.loadBase)))

/-- 60_exceptions.md R193: `set_trace_mode(b)`. -/
def State.setTraceMode (s : State) (b : Bool) : State := s.setTrace b

/-! ### Run -/

/-- 00_scope.md R2, R7, R10: the engine the commands drive: the record it emits for a step (40_execution_loop.md R92) and its
step. -/
structure Engine where
  record : State → Option TraceRecord
  step : State → StepOutcome

/-- 00_scope.md R10: the engine at any values of the named parameters. -/
def Params.engine (ps : Params) : Engine := ⟨ps.emittedRecord, ps.step⟩

/-- This hardware's engine; it is `hardware.engine` (Laws/Rules.lean). -/
def engine : Engine := ⟨hardware.emittedRecord, step⟩

/-- 40_execution_loop.md R95, with the runner's `Fuel` (R10, D17): running out of fuel is an outcome of the runner, neither a
halt nor a fault. -/
inductive RunResult where
  | halted (s : State)
  | fault (kind : Fault)
  | refused (r : Refusal)
  | outOfFuel (s : State)
deriving DecidableEq, Repr

/-- 40_execution_loop.md R95: the loop of `run`: step until Halt or Fault. -/
def Engine.runLoop (e : Engine) : Nat → State → RunResult
  | 0, s => .outOfFuel s
  | n + 1, s =>
    match e.step s with
    | .next t => if t.status = .idle then .halted t else e.runLoop n t
    | .fault f => .fault f
    | .refused r => .refused r

/-- 60_exceptions.md R194: the trace records the loop emits, one per decoded instruction, in order. An instruction that
faults in its execution has emitted its record before; a core without a step emits none. -/
def Engine.runRecords (e : Engine) : Nat → State → List TraceRecord
  | 0, _ => []
  | n + 1, s =>
    match e.step s with
    | .next t => (e.record s).toList ++ if t.status = .idle then [] else e.runRecords n t
    | .fault _ => (e.record s).toList
    | .refused _ => []

/-! ### Accessors (10_state.md R41, R42) -/

/-- 10_state.md R41: the registers the accessors name. -/
inductive RegisterId where
  | a | x | y | s | pc | p
deriving DecidableEq, Repr

/-- 10_state.md R41: a register read; an 8-bit register is given as its value zero-extended. -/
def State.readRegister (s : State) : RegisterId → Word
  | .a => zext16 s.a
  | .x => zext16 s.x
  | .y => zext16 s.y
  | .s => zext16 s.sp
  | .pc => s.pc
  | .p => zext16 s.p

/-- 10_state.md R41, D12, D19: a register write stores the value given with no check; an 8-bit register takes the low
byte of the 16-bit argument, which is the value itself for a `u8`. -/
def State.writeRegister (s : State) (v : Word) : RegisterId → State
  | .a => s.setA (lowByte v)
  | .x => s.setX (lowByte v)
  | .y => s.setY (lowByte v)
  | .s => s.setSp (lowByte v)
  | .pc => s.setPc v
  | .p => s.setP (lowByte v)

/-! ### Sessions: a core and what its host has done to it -/

/-- A core as its host sees it: live, or after `run` returned a fault, where no register, flag or memory byte has a
specified value (60_exceptions.md R185; log 3). -/
inductive Session where
  | live (s : State)
  | faulted (kind : Fault)
deriving DecidableEq, Repr

/-- 10_state.md R39: the run status of a session. -/
def Session.status : Session → RunStatus
  | .live s => s.status
  | .faulted f => .faulted f

/-- 00_scope.md R6: the host commands. -/
inductive Command where
  | new
  | load (bytes : List Byte)
  | reset
  | run
  | loadAndRun (bytes : List Byte)
  | setTraceMode (b : Bool)
  | readRegister (r : RegisterId)
  | writeRegister (r : RegisterId) (v : Word)
  | readMemory (addr : Word)
  | writeMemory (addr : Word) (v : Byte)
deriving DecidableEq, Repr

/-- 00_scope.md R6: what a command returns. -/
inductive Reply where
  | ok
  | value (v : Word)
  | halted
  | fault (kind : Fault)
  /-- of the runner, not of the core (D17) -/
  | outOfFuel
deriving DecidableEq, Repr

/-- What a command leaves and returns, and the trace records it emits (00_scope.md R7). -/
structure CommandResult where
  core : Session
  reply : Reply
  records : List TraceRecord
deriving DecidableEq, Repr

/-- A command that emits no trace record. -/
def quiet (s : State) (r : Reply) : Except Refusal CommandResult := .ok ⟨.live s, r, []⟩

/-- 40_execution_loop.md R95: the command `run`: status Running, the loop, and the status after it. -/
def Engine.run (e : Engine) (fuel : Nat) (s : State) : Except Refusal CommandResult :=
  let records := e.runRecords fuel s.enterRun
  match e.runLoop fuel s.enterRun with
  | .halted t => .ok ⟨.live t, .halted, records⟩
  | .fault f => .ok ⟨.faulted f, .fault f, records⟩
  | .outOfFuel t => .ok ⟨.live t, .outOfFuel, records⟩
  | .refused r => .error r

/-- A command on a core that is not executing and not faulted. -/
def Engine.commandIdle (e : Engine) (fuel : Nat) (s : State) : Command → Except Refusal CommandResult
  | .new => quiet State.powerOn .ok
  | .load bytes =>
    match s.load bytes with
    | .ok t => quiet t .ok
    | .error f => quiet s (.fault f)
  | .reset => quiet s.resetCommand .ok
  | .run => e.run fuel s
  | .loadAndRun bytes =>
    match s.load bytes with
    | .ok t => e.run fuel t.resetCommand
    | .error f => quiet s (.fault f)
  | .setTraceMode b => quiet (s.setTraceMode b) .ok
  | .readRegister r => quiet s (.value (s.readRegister r))
  | .writeRegister r v => quiet (s.writeRegister v r) .ok
  | .readMemory addr => quiet s (.value (zext16 (s.read addr)))
  | .writeMemory addr v => quiet (s.write addr v) .ok

/-- 00_scope.md R6, 10_state.md R43, 60_exceptions.md R185: a command on a session: none is accepted while `run`
executes, and only `new` is defined on a faulted core. -/
def Engine.command (e : Engine) (fuel : Nat) (c : Session) (cmd : Command) : Except Refusal CommandResult :=
  match c.status with
  | .running => .error .duringRun
  | .faulted f =>
    match cmd with
    | .new => quiet State.powerOn .ok
    | _ => .error (.afterFault f)
  | .idle =>
    match c with
    | .live s => e.commandIdle fuel s cmd
    | .faulted f => .error (.afterFault f)

end Sys2Proof.Machine
end

