-- ==== Sys2Proof/Safety.lean ====
section
/-! DEFINITION. The terms claims about runs use: the machine's invariant, frames, and what it takes for a stack access to
succeed. -/

namespace Sys2Proof.Machine

open Sys2Proof

/-- The invariant of every state the core reaches: memory is in canonical form, and the run status is not `Faulted`, since
a fault leaves no state to run from (60_exceptions.md R184, R185). -/
abbrev State.Inv (s : State) : Prop :=
  s.mem.wf = true ∧ (s.status = .idle ∨ s.status = .running)

/-- The 8-bit general registers (10_state.md R18). -/
inductive Reg where
  | a | x | y | s
deriving DecidableEq, Repr

/-- The value of an 8-bit register. -/
def State.reg (s : State) : Reg → Byte
  | .a => s.a
  | .x => s.x
  | .y => s.y
  | .s => s.sp

/-- `t` agrees with `s` on every register but `regs`, every bit of P but `flags`, every byte of memory but those at
`addrs`, the trace flag and the run status. PC may differ. -/
def Frame (regs : List Reg) (flags : List Flag) (addrs : List Word) (s t : State) : Prop :=
  (∀ r, r ∉ regs → t.reg r = s.reg r) ∧
  (∀ f, f ∉ flags → getFlag t.p f = getFlag s.p f) ∧
  (∀ a, a ∉ addrs → t.read a = s.read a) ∧
  t.traceEnabled = s.traceEnabled ∧ t.status = s.status

/-- 40_execution_loop.md R113: Z and N of `t` come from the result `v`. -/
def ZeroNegativeFrom (v : Byte) (t : State) : Prop :=
  getFlag t.p .zero = (v == 0x00#8) ∧ getFlag t.p .negative = v.getLsbD 7

/-- `n` pushes succeed from here (40_execution_loop.md R112: with `S = s`, `s` pushes succeed). -/
abbrev State.CanPush (n : Nat) (s : State) : Prop := n ≤ s.sp.toNat

/-- `n` pops succeed from here (40_execution_loop.md R112: with `S = s`, `0xFF - s` pops succeed). -/
abbrev State.CanPop (n : Nat) (s : State) : Prop := s.sp.toNat + n ≤ 0xFF

/-! ### Shapes of an instruction's effect, shared by the statements about its variants -/

/-- 40_execution_loop.md R93: PC after an instruction that advances by its operand length; PC is at the first operand byte
before, and the sum is modulo 65536 (D8). -/
def pcAfter (i : Instr) (s : State) : Word := s.pc + BitVec.ofInt 16 ((i.length : Int) - 1)

/-- The variant completes: it reads the byte at its effective address and fills register `r` as `also` says of that byte
and the next state; Z and N come from the register's new value, and nothing else changes but the flags `flags` and PC,
which advances. -/
def FillsRegister (r : Reg) (flags : List Flag) (also : Byte → State → Prop) (i : Instr) (s : State) : Prop :=
  ∃ ad t, hardware.resolve i.mode s = .ok ad ∧ exec i s = .next t ∧ also (s.read ad) t ∧
    ZeroNegativeFrom (t.reg r) t ∧ t.pc = pcAfter i s ∧ Frame [r] (.zero :: .negative :: flags) [] s t

/-- The variant completes: it stores `v` at its effective address and changes nothing else but PC, which advances. -/
def StoresByte (v : Byte) (i : Instr) (s : State) : Prop :=
  ∃ ad t, hardware.resolve i.mode s = .ok ad ∧ exec i s = .next t ∧ t.read ad = v ∧ t.pc = pcAfter i s ∧ Frame [] [] [ad] s t

/-- The variant completes: it reads the byte at its effective address and writes the flags `flags` as `also` says of the
byte and the new P; nothing else changes but PC, which advances. -/
def TestsByte (flags : List Flag) (also : Byte → Byte → Prop) (i : Instr) (s : State) : Prop :=
  ∃ ad t, hardware.resolve i.mode s = .ok ad ∧ exec i s = .next t ∧ also (s.read ad) t.p ∧ t.pc = pcAfter i s ∧
    Frame [] flags [] s t

/-- The variant completes: it replaces the accumulator (in Accumulator mode) or the byte at its effective address (in any
other) by a new value; `also` is what holds of the old value, the new value and the new P. Z and N come from the new
value, and nothing else changes but the flags `flags` and PC, which advances. -/
def ModifiesPlace (flags : List Flag) (also : Byte → Byte → Byte → Prop) (i : Instr) (s : State) : Prop :=
  if i.mode = .accumulator then
    ∃ t, exec i s = .next t ∧ also s.a t.a t.p ∧ ZeroNegativeFrom t.a t ∧ t.pc = pcAfter i s ∧
      Frame [.a] (.zero :: .negative :: flags) [] s t
  else
    ∃ ad t, hardware.resolve i.mode s = .ok ad ∧ exec i s = .next t ∧ also (s.read ad) (t.read ad) t.p ∧
      ZeroNegativeFrom (t.read ad) t ∧ t.pc = pcAfter i s ∧ Frame [] (.zero :: .negative :: flags) [ad] s t

/-- The one-byte variant completes: it puts `v` into register `r`, sets Z and N from it, and changes nothing else; PC is
already at the next instruction. -/
def SetsRegister (r : Reg) (v : Byte) (i : Instr) (s : State) : Prop :=
  ∃ t, exec i s = .next t ∧ t.reg r = v ∧ ZeroNegativeFrom v t ∧ t.pc = s.pc ∧ Frame [r] [.zero, .negative] [] s t

/-- The one-byte variant completes: it writes `b` to flag `f` and changes nothing else. -/
def SetsFlag (f : Flag) (b : Bool) (i : Instr) (s : State) : Prop :=
  ∃ t, exec i s = .next t ∧ getFlag t.p f = b ∧ t.pc = s.pc ∧ Frame [] [f] [] s t

/-- 45_branch.md R153: the branch completes: taken where flag `f` is `b`, to the offset byte's signed value added to the
address of the next instruction, and otherwise PC is at the next instruction; nothing else changes. -/
def BranchesWhen (f : Flag) (b : Bool) (i : Instr) (s : State) : Prop :=
  exec i s = .next (s.setPc (if getFlag s.p f = b then s.pc + 1#16 + sext16 (s.read s.pc) else s.pc + 1#16))

/-! ### Whole-machine comparisons -/

/-- An outcome with its next state changed by `f`. -/
def mapNext (f : State → State) : StepOutcome → StepOutcome
  | .next s => .next (f s)
  | .fault r => .fault r
  | .refused r => .refused r

/-- Two outcomes that differ at most in the flag `f` of their next states. -/
def AgreeButFlag (f : Flag) : StepOutcome → StepOutcome → Prop
  | .next s, .next t => s.pc = t.pc ∧ Frame [] [f] [] s t
  | .fault r, .fault q => r = q
  | _, _ => False

/-- Bytes pushed one after the other. -/
def pushAll : List Byte → State → Except Fault State
  | [], s => .ok s
  | v :: vs, s => do
    let s ← s.push v
    pushAll vs s

/-- `n` bytes popped one after the other. -/
def popAll : Nat → State → Except Fault (List Byte × State)
  | 0, s => .ok ([], s)
  | n + 1, s => do
    let (v, s) ← s.pop
    let (vs, s) ← popAll n s
    .ok (v :: vs, s)

end Sys2Proof.Machine
end

