-- ==== Sys2Proof/Certificates/Slice0/Obligations.lean ====
section
/-! DEFINITION. The statements for the provers. In every statement about `exec`, PC of the state before is the address of
the first operand byte, the opcode's address plus 1 (40_execution_loop.md R89). Every sum on PC and on addresses is modulo
65536, which is decision D8 where the source states no wrap. -/

open Sys2Proof Sys2Proof.Machine

/-! ### Encoding -/

/-- R75: the five entries the source itself shows. -/
def Obligations.SourceProgramBytesDecode : Prop :=
  (catalog 0xA9).map (fun d => (d.mnemonic, d.mode)) = some (.lda, .immediate) ∧
  (catalog 0xAA).map (·.mnemonic) = some .tax ∧ (catalog 0xE8).map (·.mnemonic) = some .inx ∧
  (catalog 0x00).map (·.mnemonic) = some .brk ∧
  (catalog 0x69).map (fun d => (d.mnemonic, d.mode)) = some (.adc, .immediate) ∧
  decode [0xA9, 0xC0] = .ok (⟨.ldaImmediate, [0xC0]⟩, []) ∧ decode [0x69, 0x01] = .ok (⟨.adcImmediate, [0x01]⟩, [])

/-- R76, R83 (decision D1): instructions of every family, written out byte by byte as 30_encoding.md R83 and the examples
of 41 to 48 give them, decode to what they stand for. -/
def Obligations.FamilySampleBytesDecode : Prop :=
  decode [0xB1, 0x10] = .ok (⟨.ldaIndirectY, [0x10]⟩, []) ∧
  decode [0x8D, 0x00, 0x02] = .ok (⟨.staAbsolute, [0x00, 0x02]⟩, []) ∧
  decode [0x9A] = .ok (⟨.txs, []⟩, []) ∧
  decode [0xE9, 0x01] = .ok (⟨.sbcImmediate, [0x01]⟩, []) ∧
  decode [0x0A] = .ok (⟨.aslAccumulator, []⟩, []) ∧
  decode [0xCE, 0x00, 0x02] = .ok (⟨.decAbsolute, [0x00, 0x02]⟩, []) ∧
  decode [0xD0, 0x80] = .ok (⟨.bne, [0x80]⟩, []) ∧
  decode [0x6C, 0xFF, 0x12] = .ok (⟨.jmpIndirect, [0xFF, 0x12]⟩, []) ∧
  decode [0x20, 0x00, 0x90] = .ok (⟨.jsr, [0x00, 0x90]⟩, []) ∧
  decode [0x40] = .ok (⟨.rti, []⟩, []) ∧
  decode [0xB8, 0xEA] = .ok (⟨.clv, []⟩, [0xEA]) ∧
  decode [0x02] = .error (.unknownOpcode 0x02)

/-- 30_encoding.md sections 1 to 3 (the byte values are decision D1): decoding the encoding of a well-formed instruction,
with any operand bytes and any bytes after it, gives it back with the bytes after it. -/
def Obligations.DecodeOfEncodeIsTheInstruction : Prop :=
  ∀ (c : Code) (rest : List Byte), WellFormed c = true → decode (encode c ++ rest) = .ok (c, rest)

/-- 30_encoding.md sections 1 to 3 (D1): whatever decodes is well formed and is the encoding of what it decodes to, so no
two byte strings stand for one instruction. -/
def Obligations.DecodedBytesAreTheEncoding : Prop :=
  ∀ (bytes rest : List Byte) (c : Code), decode bytes = .ok (c, rest) →
    WellFormed c = true ∧ bytes = encode c ++ rest

/-- R79 (decision D2): the bytes without a catalog entry are the 105 the spec lists. -/
def Obligations.UnknownOpcodesAreTheListedBytes : Prop :=
  ∀ b : Byte, catalog b = none ↔ b.toNat ∈
    [0x02, 0x03, 0x04, 0x07, 0x0B, 0x0C, 0x0F, 0x12, 0x13, 0x14, 0x17, 0x1A, 0x1B, 0x1C, 0x1F, 0x22, 0x23, 0x27, 0x2B,
     0x2F, 0x32, 0x33, 0x34, 0x37, 0x3A, 0x3B, 0x3C, 0x3F, 0x42, 0x43, 0x44, 0x47, 0x4B, 0x4F, 0x52, 0x53, 0x54, 0x57,
     0x5A, 0x5B, 0x5C, 0x5F, 0x62, 0x63, 0x64, 0x67, 0x6B, 0x6F, 0x72, 0x73, 0x74, 0x77, 0x7A, 0x7B, 0x7C, 0x7F, 0x80,
     0x82, 0x83, 0x87, 0x89, 0x8B, 0x8F, 0x92, 0x93, 0x97, 0x9B, 0x9C, 0x9E, 0x9F, 0xA3, 0xA7, 0xAB, 0xAF, 0xB2, 0xB3,
     0xB7, 0xBB, 0xBF, 0xC2, 0xC3, 0xC7, 0xCB, 0xCF, 0xD2, 0xD3, 0xD4, 0xD7, 0xDA, 0xDB, 0xDC, 0xDF, 0xE2, 0xE3, 0xE7,
     0xEB, 0xEF, 0xF2, 0xF3, 0xF4, 0xF7, 0xFA, 0xFB, 0xFC, 0xFF]

/-- 30_encoding.md section 6, the encoding of a Relative operand (an inference the spec marks as derived; wrap D8): for
every target within -128..127 of the next instruction, the byte it encodes resolves to the target. -/
def Obligations.RelativeOperandReachesItsTarget : Prop :=
  ∀ (s : State) (target : Word), -128 ≤ (target - (s.pc + 1#16)).toInt → (target - (s.pc + 1#16)).toInt ≤ 127 →
    s.read s.pc = lowByte (target - (s.pc + 1#16)) → hardware.resolve .relative s = .ok target

/-! ### The step -/

/-- 40_execution_loop.md section 1: where the bytes at PC decode, the step of a core that is not faulted is the
instruction's execution with PC moved past the opcode byte and the run status Running (D8, D9; log 2). -/
def Obligations.StepExecutesTheDecodedInstruction : Prop :=
  ∀ (s : State) (c : Code) (rest : List Byte), decode (s.bytesAt s.pc 3) = .ok (c, rest) →
    (∀ f, s.status ≠ .faulted f) →
    step s = exec c.instr ((s.setStatus .running).setPc (s.pc + 1#16))

/-- R91: a byte without an entry is the fault that names it and its address; no trace record is emitted. -/
def Obligations.UnknownOpcodeStepFaults : Prop :=
  ∀ s : State, catalog (s.read s.pc) = none → (∀ f, s.status ≠ .faulted f) →
    step s = .fault (.unimplementedOpcode (s.read s.pc) s.pc) ∧ hardware.emittedRecord s = none

/-- 60_exceptions.md section 1 (decision D9): a faulted core has no step, and every other state has one that is not
refused. -/
def Obligations.StepRefusesExactlyFaultedCores : Prop :=
  ∀ (s : State) (r : Refusal), step s = .refused r ↔ ∃ f, s.status = .faulted f ∧ r = .afterFault f

/-- The invariant of the machine is kept by every step: memory stays in canonical form and the run status stays Idle or
Running. -/
def Obligations.StepKeepsTheInvariant : Prop :=
  ∀ s t : State, s.Inv → step s = .next t → t.Inv

/-- The invariant holds at reset. -/
def Obligations.ResetMeetsTheInvariant : Prop := State.reset.Inv

/-- 40_execution_loop.md section 1: a next state is Idle exactly where the byte executed was BRK, and Running otherwise
(that Halt is a next state with status Idle is log 2). -/
def Obligations.StepHaltsExactlyAtBrk : Prop :=
  ∀ s t : State, step s = .next t → (t.status = .idle ↔ s.read s.pc = 0x00#8) ∧ (t.status = .idle ∨ t.status = .running)

/-- 60_exceptions.md sections 1 and 2: every fault a step can raise names the instruction at PC and is an unknown opcode,
a StackOverflow by PHA, PHP or JSR, or a StackUnderflow by PLA, PLP, RTS or RTI; kinds 2, 5 and 6 never occur in a step of
this hardware (D1, D8). -/
def Obligations.StepFaultsAreUnknownOpcodesAndStackLimits : Prop :=
  ∀ (s : State) (f : Fault), step s = .fault f →
    (f = .unimplementedOpcode (s.read s.pc) s.pc ∧ catalog (s.read s.pc) = none) ∨
    (f = .stackOverflow 0x00#8 s.pc ∧ ∃ d, catalog (s.read s.pc) = some d ∧ d.mnemonic ∈ [.pha, .php, .jsr]) ∨
    (f = .stackUnderflow 0xFF#8 s.pc ∧ ∃ d, catalog (s.read s.pc) = some d ∧ d.mnemonic ∈ [.pla, .plp, .rts, .rti])

/-- R92: one trace record is emitted exactly if tracing is enabled and the opcode decodes, and the step is the same with
tracing enabled or not. A fetch that raises emits none, at any values of the named parameters. -/
def Obligations.TracingNeverChangesTheStep : Prop :=
  ∀ (s : State) (b : Bool),
    ((hardware.emittedRecord s).isSome = (s.traceEnabled && (catalog (s.read s.pc)).isSome)) ∧
    step (s.setTrace b) = mapNext (·.setTrace b) (step s) ∧
    ∀ (ps : Params) (f : Fault), ps.fetch ps.catalog s = .error f → ps.emittedRecord s = none

/-- 60_exceptions.md section 5 (decision D15): the record carries the mnemonic, the opcode byte and the operand bytes as
they are before the instruction executes. -/
def Obligations.TraceRecordHoldsTheInstructionBytes : Prop :=
  ∀ (s : State) (c : Code) (rest : List Byte), decode (s.bytesAt s.pc 3) = .ok (c, rest) → s.traceEnabled = true →
    hardware.emittedRecord s = some ⟨c.instr.mnemonic, s.read s.pc, c.operands⟩

/-! ### The resolver and the stack primitives -/

/-- 40_execution_loop.md section 2: the effective address of each mode; the Indirect pointer does not wrap within its page
(D7), the zero-page pointers do. -/
def Obligations.ResolverGivesTheEffectiveAddress : Prop :=
  ∀ s : State,
    let b1 := s.read s.pc
    let operand := concat16 (s.read (s.pc + 1#16)) b1
    let px := b1 + s.x
    hardware.resolve .immediate s = .ok s.pc ∧
    hardware.resolve .zeroPage s = .ok (zext16 b1) ∧
    hardware.resolve .zeroPageX s = .ok (zext16 (b1 + s.x)) ∧
    hardware.resolve .zeroPageY s = .ok (zext16 (b1 + s.y)) ∧
    hardware.resolve .absolute s = .ok operand ∧
    hardware.resolve .absoluteX s = .ok (operand + zext16 s.x) ∧
    hardware.resolve .absoluteY s = .ok (operand + zext16 s.y) ∧
    hardware.resolve .indirect s = .ok (concat16 (s.read (operand + 1#16)) (s.read operand)) ∧
    hardware.resolve .indirectX s = .ok (concat16 (s.read (zext16 (px + 1#8))) (s.read (zext16 px))) ∧
    hardware.resolve .indirectY s = .ok (concat16 (s.read (zext16 (b1 + 1#8))) (s.read (zext16 b1)) + zext16 s.y) ∧
    hardware.resolve .relative s = .ok (s.pc + sext16 b1 + 1#16)

/-- 40_execution_loop.md section 2, the two modes without an effective address: the resolver faults in them, naming the
mode and the opcode's address, and in no other mode (on this hardware, D8). -/
def Obligations.ResolverFaultsExactlyWithoutAnAddress : Prop :=
  ∀ (m : AddressingMode) (s : State) (f : Fault), hardware.resolve m s = .error f ↔
    (m = .accumulator ∨ m = .noneAddressing) ∧ f = .unsupportedAddressingMode m (s.pc - 1#16)

/-- R97, R98, R103, R104: Immediate is the operand byte's own address; the zero-page modes add with 8-bit wraparound, so
their result stays within page 0; a zero-page pointer's second byte wraps within page 0; Indirect_Y adds Y with 16-bit
wraparound. -/
def Obligations.OneByteOperandsResolveWithByteWraparound : Prop :=
  ∀ s : State,
    let b1 := (s.read s.pc).toNat
    let byteAt := fun n : Nat => (s.read (BitVec.ofNat 16 (n % 256))).toNat
    hardware.resolve .immediate s = .ok s.pc ∧
    (∃ ad, hardware.resolve .zeroPage s = .ok ad ∧ ad.toNat = b1) ∧
    (∃ ad, hardware.resolve .zeroPageX s = .ok ad ∧ ad.toNat = (b1 + s.x.toNat) % 256) ∧
    (∃ ad, hardware.resolve .zeroPageY s = .ok ad ∧ ad.toNat = (b1 + s.y.toNat) % 256) ∧
    (∃ ad, hardware.resolve .indirectX s = .ok ad ∧
      ad.toNat = byteAt (b1 + s.x.toNat + 1) * 256 + byteAt (b1 + s.x.toNat)) ∧
    (∃ ad, hardware.resolve .indirectY s = .ok ad ∧
      ad.toNat = (byteAt (b1 + 1) * 256 + byteAt b1 + s.y.toNat) % 65536)

/-- R113: SetZN sets Z where the result is zero and N to the result's bit 7, and leaves the other six bits of P alone. -/
def Obligations.SetZNTakesZeroAndBitSeven : Prop :=
  ∀ p v : Byte,
    getFlag (setZN p v) .zero = decide (v.toNat = 0) ∧ getFlag (setZN p v) .negative = decide (128 ≤ v.toNat) ∧
    ∀ f, f ≠ .zero → f ≠ .negative → getFlag (setZN p v) f = getFlag p f

/-- 40_execution_loop.md section 4: PushU16 pushes the high byte first (R110), so the high byte lands at 0x0100 + S and the
low byte at the address below it, and the value reads little-endian there. Where a push of the two finds S = 0x00 it is
that push's fault (R108, decision D9), which names PC - 1 as the opcode's address (R181; log 5, DEDUCED). -/
def Obligations.PushU16LandsLittleEndian : Prop :=
  ∀ (s : State) (v : Word),
    (s.CanPush 2 →
      ∃ t, s.push16 v = .ok t ∧ t.read (0x0100#16 + zext16 s.sp) = highByte v ∧
        t.read (0x0100#16 + zext16 s.sp - 1#16) = lowByte v ∧ hardware.read16 t (0x0100#16 + zext16 s.sp - 1#16) = .ok v ∧
        t.sp = s.sp - 2#8 ∧ t.pc = s.pc ∧
        Frame [.s] [] [0x0100#16 + zext16 s.sp, 0x0100#16 + zext16 s.sp - 1#16] s t) ∧
    (¬ s.CanPush 2 → s.push16 v = .error (.stackOverflow 0x00#8 (s.pc - 1#16)))

/-- R111: PopU16 pops the low byte first, and a pop undoes a push, for a byte and for a word; pushes pop in reverse
order. -/
def Obligations.PopsUndoPushes : Prop :=
  (∀ s : State, s.CanPop 2 →
    ∃ u, s.pop16 = .ok (concat16 (s.read (stackAddr (s.sp + 2#8))) (s.read (stackAddr (s.sp + 1#8))), u) ∧
      u = s.setSp (s.sp + 2#8)) ∧
  (∀ (s : State) (v : Byte), s.CanPush 1 →
    ∃ t u, s.push v = .ok t ∧ t.pop = .ok (v, u) ∧ u.sp = s.sp) ∧
  (∀ (s : State) (v : Word), s.CanPush 2 →
    ∃ t u, s.push16 v = .ok t ∧ t.pop16 = .ok (v, u) ∧ u.sp = s.sp) ∧
  (∀ (s : State) (vs : List Byte), s.CanPush vs.length →
    ∃ t u, pushAll vs s = .ok t ∧ popAll vs.length t = .ok (vs.reverse, u) ∧ u.sp = s.sp)

/-- 40_execution_loop.md section 4, the stack's capacity (derived in the spec): with S = s exactly s pushes and 0xFF - s
pops succeed, and one more is the fault at the opcode's address. -/
def Obligations.StackCapacityIsS : Prop :=
  (∀ (s : State) (vs : List Byte), (∃ t, pushAll vs s = .ok t) ↔ vs.length ≤ s.sp.toNat) ∧
  (∀ (s : State) (n : Nat), (∃ r, popAll n s = .ok r) ↔ n ≤ 0xFF - s.sp.toNat) ∧
  (∀ (s : State) (vs : List Byte), s.sp.toNat < vs.length →
    pushAll vs s = .error (.stackOverflow 0x00#8 (s.pc - 1#16))) ∧
  (∀ (s : State) (n : Nat), 0xFF - s.sp.toNat < n → popAll n s = .error (.stackUnderflow 0xFF#8 (s.pc - 1#16)))

/-- 20_memory.md section 5 (derived in the spec): a push writes at 0x0100 + S only, which is within 0x0101 to 0x01FF, and
leaves S one less; a pop makes S one more and reads at 0x0100 + S, within the same bytes; neither changes PC or anything
else. -/
def Obligations.StackAccessesStayWithinPageOne : Prop :=
  (∀ (s t : State) (v : Byte), s.push v = .ok t → t.read (stackAddr s.sp) = v ∧ t.sp = s.sp - 1#8 ∧ t.pc = s.pc ∧
    0x0101 ≤ (stackAddr s.sp).toNat ∧ (stackAddr s.sp).toNat ≤ 0x01FF ∧ Frame [.s] [] [stackAddr s.sp] s t) ∧
  (∀ (s t : State) (v : Byte), s.pop = .ok (v, t) → v = s.read (stackAddr t.sp) ∧ t.sp = s.sp + 1#8 ∧ t.pc = s.pc ∧
    0x0101 ≤ (stackAddr t.sp).toNat ∧ (stackAddr t.sp).toNat ≤ 0x01FF ∧ Frame [.s] [] [] s t)

/-! ### What each instruction does -/

/-- 41_load_store_transfer.md, loads: LDA, LDX and LDY complete in every mode, put the byte at the effective address into
their register and set Z and N from it; nothing else changes. -/
def Obligations.LoadsFillTheirRegister : Prop :=
  ∀ (i : Instr) (s : State),
    (i.mnemonic = .lda → FillsRegister .a [] (fun v t => t.a = v) i s) ∧
    (i.mnemonic = .ldx → FillsRegister .x [] (fun v t => t.x = v) i s) ∧
    (i.mnemonic = .ldy → FillsRegister .y [] (fun v t => t.y = v) i s)

/-- 41_load_store_transfer.md, stores: STA, STX and STY complete in every mode and store their register at the effective
address; every other byte, every register and every flag is unchanged. -/
def Obligations.StoresWriteTheirRegister : Prop :=
  ∀ (i : Instr) (s : State),
    (i.mnemonic = .sta → StoresByte s.a i s) ∧ (i.mnemonic = .stx → StoresByte s.x i s) ∧
    (i.mnemonic = .sty → StoresByte s.y i s)

/-- R125 to R130: the six transfers copy their register, set Z and N from the copy (TXS sets none) and change nothing
else. Which register each copies is general knowledge in the spec (R118; log 23, PRESUMED), but for TAX. -/
def Obligations.TransfersCopyTheirRegister : Prop :=
  ∀ s : State,
    SetsRegister .x s.a .tax s ∧ SetsRegister .y s.a .tay s ∧ SetsRegister .a s.x .txa s ∧
    SetsRegister .a s.y .tya s ∧ SetsRegister .x s.sp .tsx s ∧
    exec .txs s = .next (s.setSp s.x)

/-- 42_arithmetic_logic.md, ADC: completes in every mode with A the sum of A, the operand and the carry modulo 256, C its
carry, V its signed overflow (decision D4), Z and N from the result, whatever D holds (D6). -/
def Obligations.AdcAddsWithCarry : Prop :=
  ∀ (i : Instr) (s : State), i.mnemonic = .adc →
    FillsRegister .a [.carry, .overflow] (fun val t =>
      let cin := (getFlag s.p .carry).toNat
      let sum := s.a.toNat + val.toNat + cin
      let signed : Int := s.a.toInt + val.toInt + cin
      t.a.toNat = sum % 256 ∧ getFlag t.p .carry = decide (256 ≤ sum) ∧
      getFlag t.p .overflow = decide (signed < -128 ∨ 127 < signed)) i s

/-- 42_arithmetic_logic.md, SBC: completes in every mode with A the difference A - operand - (1 - C) modulo 256, C set
where there is no borrow, V its signed overflow (both decision D5), Z and N from the result, whatever D holds (D6). -/
def Obligations.SbcSubtractsWithBorrow : Prop :=
  ∀ (i : Instr) (s : State), i.mnemonic = .sbc →
    FillsRegister .a [.carry, .overflow] (fun val t =>
      let borrow : Int := 1 - (getFlag s.p .carry).toNat
      let diff : Int := (s.a.toNat : Int) - val.toNat - borrow
      let signed : Int := s.a.toInt - val.toInt - borrow
      (t.a.toNat : Int) = diff % 256 ∧ getFlag t.p .carry = decide (0 ≤ diff) ∧
      getFlag t.p .overflow = decide (signed < -128 ∨ 127 < signed)) i s

/-- 42_arithmetic_logic.md, SBC's corner cases (derived in the spec): SBC's result and carry are those of ADC of the
operand's complement with the same carry. -/
def Obligations.SbcIsAdcOfTheComplement : Prop :=
  ∀ p a val : Byte, hardware.sbcResult p a val = hardware.adcResult p a (~~~val)

/-- 42_arithmetic_logic.md, logic: AND, ORA and EOR complete in every mode with A the bitwise result, Z and N from it, and
nothing else changed. -/
def Obligations.LogicCombinesBitwise : Prop :=
  ∀ (i : Instr) (s : State),
    (i.mnemonic = .and → FillsRegister .a [] (fun v t => t.a = s.a &&& v) i s) ∧
    (i.mnemonic = .ora → FillsRegister .a [] (fun v t => t.a = s.a ||| v) i s) ∧
    (i.mnemonic = .eor → FillsRegister .a [] (fun v t => t.a = s.a ^^^ v) i s)

/-- 43_shift_rotate.md: ASL, LSR, ROL and ROR complete on the accumulator and in every memory mode; C is the bit shifted
out, the vacated bit 0 or the old carry, Z and N from the result, and only the place shifted is written. Which way each
shifts, and LSR's zero fill, are general knowledge in the spec (R137; log 23, PRESUMED). -/
def Obligations.ShiftsMoveOneBitThroughCarry : Prop :=
  ∀ (i : Instr) (s : State),
    let cin := (getFlag s.p .carry).toNat
    (i.mnemonic = .asl → ModifiesPlace [.carry]
      (fun v r p => r.toNat = 2 * v.toNat % 256 ∧ getFlag p .carry = v.getLsbD 7) i s) ∧
    (i.mnemonic = .lsr → ModifiesPlace [.carry]
      (fun v r p => r.toNat = v.toNat / 2 ∧ getFlag p .carry = v.getLsbD 0) i s) ∧
    (i.mnemonic = .rol → ModifiesPlace [.carry]
      (fun v r p => r.toNat = 2 * v.toNat % 256 + cin ∧ getFlag p .carry = v.getLsbD 7) i s) ∧
    (i.mnemonic = .ror → ModifiesPlace [.carry]
      (fun v r p => r.toNat = v.toNat / 2 + 128 * cin ∧ getFlag p .carry = v.getLsbD 0) i s)

/-- 44_compare_incdec_bit.md, compare: CMP, CPX and CPY complete in every mode with C, Z and N the unsigned comparisons of
register and operand (N by the literal rule, decision D3), and nothing else changed. -/
def Obligations.ComparesSetOrderFlags : Prop :=
  ∀ (i : Instr) (s : State) (reg : Byte),
    ((i.mnemonic = .cmp ∧ reg = s.a) ∨ (i.mnemonic = .cpx ∧ reg = s.x) ∨ (i.mnemonic = .cpy ∧ reg = s.y)) →
    TestsByte [.carry, .zero, .negative] (fun val p =>
      getFlag p .carry = decide (val.toNat ≤ reg.toNat) ∧ getFlag p .zero = (reg == val) ∧
      getFlag p .negative = decide (reg.toNat < val.toNat)) i s

/-- 44_compare_incdec_bit.md, INC and DEC: complete in every mode with the byte at the effective address one more or one
less modulo 256, Z and N from it, and nothing else changed. -/
def Obligations.MemoryCountsModulo256 : Prop :=
  ∀ (i : Instr) (s : State),
    (i.mnemonic = .inc → ModifiesPlace [] (fun v r _ => r.toNat = (v.toNat + 1) % 256) i s) ∧
    (i.mnemonic = .dec → ModifiesPlace [] (fun v r _ => r.toNat = (v.toNat + 255) % 256) i s)

/-- R147, R148, R150, R151: INX, INY, DEX and DEY step their register modulo 256 and set Z and N from it; C, V and
everything else are unchanged. -/
def Obligations.IndexRegistersCountModulo256 : Prop :=
  ∀ s : State,
    SetsRegister .x (s.x + 1#8) .inx s ∧ SetsRegister .y (s.y + 1#8) .iny s ∧
    SetsRegister .x (s.x - 1#8) .dex s ∧ SetsRegister .y (s.y - 1#8) .dey s

/-- 44_compare_incdec_bit.md, BIT: completes in both modes with Z from `operand & A`, V and N from bits 6 and 7 of the
operand, and nothing else changed. -/
def Obligations.BitTestsTheOperand : Prop :=
  ∀ (i : Instr) (s : State), i.mnemonic = .bit →
    TestsByte [.zero, .overflow, .negative] (fun val p =>
      getFlag p .zero = (val &&& s.a == 0x00#8) ∧ getFlag p .overflow = val.getLsbD 6 ∧
      getFlag p .negative = val.getLsbD 7) i s

/-- 45_branch.md: the eight branches complete, taken exactly on their flag, to the target relative to the next
instruction, and change nothing but PC (the flag each names is general knowledge in the spec, wrap D8). -/
def Obligations.BranchesFollowTheirFlag : Prop :=
  ∀ s : State,
    BranchesWhen .carry false .bcc s ∧ BranchesWhen .carry true .bcs s ∧
    BranchesWhen .zero true .beq s ∧ BranchesWhen .zero false .bne s ∧
    BranchesWhen .negative true .bmi s ∧ BranchesWhen .negative false .bpl s ∧
    BranchesWhen .overflow false .bvc s ∧ BranchesWhen .overflow true .bvs s

/-- 46_jump_call_return.md, JMP: completes in both modes and changes nothing but PC, which becomes the operand word, or the
word it points at with no page wrap (D7). -/
def Obligations.JumpsLoadTheProgramCounter : Prop :=
  ∀ s : State,
    let operand := concat16 (s.read (s.pc + 1#16)) (s.read s.pc)
    exec .jmpAbsolute s = .next (s.setPc operand) ∧
    exec .jmpIndirect s = .next (s.setPc (concat16 (s.read (operand + 1#16)) (s.read operand)))

/-- 46_jump_call_return.md, JSR: where two pushes succeed it completes: the address of its last byte is on the stack, high
byte above low byte, S is two less, and PC is the operand word as it reads after the pushes (D20). Otherwise one of its
pushes finds S = 0x00 and it is StackOverflow at the opcode's address. -/
def Obligations.JsrPushesItsLastByteAddress : Prop :=
  ∀ s : State,
    (s.CanPush 2 →
      ∃ t, exec .jsr s = .next t ∧ t.sp = s.sp - 2#8 ∧
        t.read (stackAddr s.sp) = highByte (s.pc + 1#16) ∧ t.read (stackAddr (s.sp - 1#8)) = lowByte (s.pc + 1#16) ∧
        t.pc = concat16 (t.read (s.pc + 1#16)) (t.read s.pc) ∧
        Frame [.s] [] [stackAddr s.sp, stackAddr (s.sp - 1#8)] s t) ∧
    (¬ s.CanPush 2 → exec .jsr s = .fault (.stackOverflow 0x00#8 (s.pc - 1#16)))

/-- 46_jump_call_return.md, RTS: where two pops succeed it completes with PC one more than the popped word, S two more, and
nothing else changed (wrap D8). Otherwise one of its pops finds S = 0xFF and it is StackUnderflow at the opcode's
address. -/
def Obligations.RtsReturnsPastThePoppedAddress : Prop :=
  ∀ s : State,
    (s.CanPop 2 →
      exec .rts s = .next ((s.setSp (s.sp + 2#8)).setPc
        (concat16 (s.read (stackAddr (s.sp + 2#8))) (s.read (stackAddr (s.sp + 1#8))) + 1#16))) ∧
    (¬ s.CanPop 2 → exec .rts s = .fault (.stackUnderflow 0xFF#8 (s.pc - 1#16)))

/-- 47_stack_rti.md, PHA and PHP: where a push succeeds PHA pushes A and PHP pushes P with bits 4 and 5 set; S is one less,
P and everything else is unchanged. With S = 0x00 each is StackOverflow at the opcode's address. -/
def Obligations.PushesStoreAtTheStackPointer : Prop :=
  ∀ s : State,
    (s.CanPush 1 →
      ∃ t, exec .pha s = .next t ∧ t.read (stackAddr s.sp) = s.a ∧ t.sp = s.sp - 1#8 ∧ t.pc = s.pc ∧
        Frame [.s] [] [stackAddr s.sp] s t) ∧
    (s.CanPush 1 →
      ∃ t, exec .php s = .next t ∧ t.sp = s.sp - 1#8 ∧ t.pc = s.pc ∧ Frame [.s] [] [stackAddr s.sp] s t ∧
        ∀ f, getFlag (t.read (stackAddr s.sp)) f = (getFlag s.p f || decide (f = .brk ∨ f = .one))) ∧
    (s.sp = 0x00#8 → exec .pha s = .fault (.stackOverflow 0x00#8 (s.pc - 1#16)) ∧
      exec .php s = .fault (.stackOverflow 0x00#8 (s.pc - 1#16)))

/-- 47_stack_rti.md, PLA and PLP: where a pop succeeds S is one more, PLA puts the popped byte into A with Z and N from it,
and PLP makes every flag the popped byte's but B, which is 0; bit 5 is as popped (D13). With S = 0xFF each is
StackUnderflow at the opcode's address. -/
def Obligations.PullsReadAboveTheStackPointer : Prop :=
  ∀ s : State,
    let v := s.read (stackAddr (s.sp + 1#8))
    (s.CanPop 1 →
      ∃ t, exec .pla s = .next t ∧ t.a = v ∧ t.sp = s.sp + 1#8 ∧ ZeroNegativeFrom v t ∧
        t.pc = s.pc ∧ Frame [.a, .s] [.zero, .negative] [] s t) ∧
    (s.CanPop 1 →
      ∃ t, exec .plp s = .next t ∧ (∀ f, getFlag t.p f = (getFlag v f && decide (f ≠ .brk))) ∧
        t.sp = s.sp + 1#8 ∧ t.pc = s.pc ∧
        Frame [.s] [.carry, .zero, .interruptDisable, .decimal, .brk, .one, .overflow, .negative] [] s t) ∧
    (s.sp = 0xFF#8 → exec .pla s = .fault (.stackUnderflow 0xFF#8 (s.pc - 1#16)) ∧
      exec .plp s = .fault (.stackUnderflow 0xFF#8 (s.pc - 1#16)))

/-- 47_stack_rti.md, RTI: where three pops succeed it completes: P as PLP leaves it, then PC low byte first with no 1 added,
S three more, and nothing else changed (bit 5: D13). Otherwise one of its pops finds S = 0xFF and it is StackUnderflow
at the opcode's address. -/
def Obligations.RtiRestoresStatusAndProgramCounter : Prop :=
  ∀ s : State,
    (s.CanPop 3 →
      ∃ t, exec .rti s = .next t ∧
        (∀ f, getFlag t.p f = (getFlag (s.read (stackAddr (s.sp + 1#8))) f && decide (f ≠ .brk))) ∧
        t.pc = concat16 (s.read (stackAddr (s.sp + 3#8))) (s.read (stackAddr (s.sp + 2#8))) ∧ t.sp = s.sp + 3#8 ∧
        Frame [.s] [.carry, .zero, .interruptDisable, .decimal, .brk, .one, .overflow, .negative] [] s t) ∧
    (¬ s.CanPop 3 → exec .rti s = .fault (.stackUnderflow 0xFF#8 (s.pc - 1#16)))

/-- R170 to R176: each flag instruction writes its one flag and nothing else. Which flag each mnemonic names is general
knowledge in the spec (48_flags_nop_brk.md, Flag set and clear; log 23, PRESUMED). -/
def Obligations.FlagInstructionsWriteOneFlag : Prop :=
  ∀ s : State,
    SetsFlag .carry true .sec s ∧ SetsFlag .carry false .clc s ∧
    SetsFlag .decimal true .sed s ∧ SetsFlag .decimal false .cld s ∧
    SetsFlag .interruptDisable true .sei s ∧ SetsFlag .interruptDisable false .cli s ∧
    SetsFlag .overflow false .clv s

/-- R177: NOP changes nothing after the fetch's increment of PC. -/
def Obligations.NopChangesNothing : Prop := ∀ s : State, exec .nop s = .next s

/-- 48_flags_nop_brk.md, BRK: no register, flag, PC or memory byte changes; the halt is the run status Idle in the next
state (that form is log 2). -/
def Obligations.BrkOnlyHalts : Prop := ∀ s : State, exec .brk s = .next (s.setStatus .idle)

/-! ### Whole-machine rules -/

/-- 10_state.md section 1: a register changes only by the instructions the spec lists as its writers. -/
def Obligations.RegistersChangeOnlyByTheirWriters : Prop :=
  ∀ (i : Instr) (s t : State), exec i s = .next t →
    (t.a ≠ s.a → i.mnemonic ∈ [.lda, .txa, .tya, .adc, .sbc, .and, .ora, .eor, .pla] ∨
      (i.mnemonic ∈ [.asl, .lsr, .rol, .ror] ∧ i.mode = .accumulator)) ∧
    (t.x ≠ s.x → i.mnemonic ∈ [.ldx, .tax, .tsx, .inx, .dex]) ∧
    (t.y ≠ s.y → i.mnemonic ∈ [.ldy, .tay, .iny, .dey]) ∧
    (t.sp ≠ s.sp → i.mnemonic ∈ [.txs, .pha, .php, .jsr, .pla, .plp, .rts, .rti])

/-- 10_state.md section 2: a bit of P changes only by the instructions the spec lists as its writers; in particular nothing
sets B, and bit 5 changes only by PLP and RTI (D13). -/
def Obligations.FlagsChangeOnlyByTheirWriters : Prop :=
  ∀ (i : Instr) (s t : State), exec i s = .next t →
    let changed := fun f => getFlag t.p f ≠ getFlag s.p f
    (changed .carry → i.mnemonic ∈
      [.adc, .sbc, .asl, .lsr, .rol, .ror, .cmp, .cpx, .cpy, .sec, .clc, .plp, .rti]) ∧
    ((changed .zero ∨ changed .negative) → i.mnemonic ∈
      [.lda, .ldx, .ldy, .tax, .tay, .txa, .tya, .tsx, .adc, .sbc, .and, .ora, .eor, .asl, .lsr, .rol, .ror, .cmp,
       .cpx, .cpy, .inc, .inx, .iny, .dec, .dex, .dey, .bit, .pla, .plp, .rti]) ∧
    (changed .interruptDisable → i.mnemonic ∈ [.sei, .cli, .plp, .rti]) ∧
    (changed .decimal → i.mnemonic ∈ [.sed, .cld, .plp, .rti]) ∧
    (changed .overflow → i.mnemonic ∈ [.adc, .sbc, .bit, .clv, .plp, .rti]) ∧
    (changed .one → i.mnemonic ∈ [.plp, .rti]) ∧
    (changed .brk → i.mnemonic ∈ [.plp, .rti] ∧ getFlag t.p .brk = false)

/-- 20_memory.md sections 4 and 5: a byte of memory changes only at the effective address of a store, a shift on memory,
INC or DEC, or where a push stores: at 0x0100 + S by PHA and PHP, at 0x0100 + S and 0x0100 + (S - 1) by JSR, all of them
within 0x0101 to 0x01FF. -/
def Obligations.MemoryChangesOnlyWhereTheRulesStore : Prop :=
  ∀ (i : Instr) (s t : State) (a : Word), exec i s = .next t → t.read a ≠ s.read a →
    (i.mnemonic ∈ [.sta, .stx, .sty, .asl, .lsr, .rol, .ror, .inc, .dec] ∧ hardware.resolve i.mode s = .ok a) ∨
    (((i.mnemonic ∈ [.pha, .php] ∧ a = stackAddr s.sp) ∨
        (i.mnemonic = .jsr ∧ (a = stackAddr s.sp ∨ a = stackAddr (s.sp - 1#8)))) ∧
      0x0101 ≤ a.toNat ∧ a.toNat ≤ 0x01FF)

/-- 10_state.md section 2 (decisions D6, D12): I, D, B and bit 5 gate nothing: but for PHP, which pushes them, an
instruction does the same whatever the flag holds, and its next states differ in that flag at most. -/
def Obligations.InertFlagsAreReadByPhpOnly : Prop :=
  ∀ (i : Instr) (s : State) (f : Flag) (b : Bool), i ≠ .php → f ∈ [.interruptDisable, .decimal, .brk, .one] →
    AgreeButFlag f (exec i s) (exec i (s.setP (setFlag s.p f b)))

/-- 46_jump_call_return.md, RTS's example: an RTS anywhere after a JSR returns to the instruction after the JSR with S as it
was; only the two stack bytes differ. -/
def Obligations.RtsReturnsAfterTheJsr : Prop :=
  ∀ (s : State) (returnPc : Word), s.CanPush 2 →
    ∃ t u, exec .jsr s = .next t ∧ exec .rts (t.setPc returnPc) = .next u ∧ u.pc = s.pc + 2#16 ∧
      Frame [] [] [stackAddr s.sp, stackAddr (s.sp - 1#8)] s u

/-- 47_stack_rti.md, PLA's and PLP's corner cases: PLA after PHA gives A back, and PLP after PHP leaves P with B cleared
and bit 5 set (D13), each with S as it was. -/
def Obligations.PullsUndoPushes : Prop :=
  ∀ s : State, s.CanPush 1 →
    (∃ t u, exec .pha s = .next t ∧ exec .pla t = .next u ∧ Frame [] [.zero, .negative] [stackAddr s.sp] s u) ∧
    (∃ t u, exec .php s = .next t ∧ exec .plp t = .next u ∧ Frame [] [.brk, .one] [stackAddr s.sp] s u ∧
      getFlag u.p .brk = false ∧ getFlag u.p .one = true)

/-- 20_memory.md sections 2 and 6: after any writes to zeroed memory, a byte reads as the value last written to it, or 0x00
where nothing has written it. -/
def Obligations.ReadsGiveTheLastByteWritten : Prop :=
  ∀ (writes : List (Word × Byte)) (a : Word),
    (writes.foldl (fun s w => s.write w.1 w.2) State.powerOn).read a =
      ((writes.reverse.find? (fun w => w.1 == a)).map (·.2)).getD 0x00#8

/-- 20_memory.md section 2 with 10_state.md R37: the canonical form holds one list for each memory array. -/
def Obligations.CanonicalMemoriesWithEqualBytesAreEqual : Prop :=
  ∀ m n : Memory, m.wf = true → n.wf = true → (∀ a : Word, m.read a = n.read a) → m = n

/-! ### Host commands -/

/-- 70_reset_and_hazards.md sections 1 and 2 (decisions D11, D15): the power-on state, and what `reset` leaves: A, X and P
zero, S 0xFD, PC the reset vector, Y, memory and the trace flag unchanged. State.reset is `reset` after `new` (log 1). -/
def Obligations.NewAndResetLeaveTheStatedState : Prop :=
  (State.powerOn.a = 0x00#8 ∧ State.powerOn.x = 0x00#8 ∧ State.powerOn.y = 0x00#8 ∧ State.powerOn.sp = 0xFD#8 ∧
    State.powerOn.pc = 0x0000#16 ∧ State.powerOn.p = 0x00#8 ∧ (∀ a, State.powerOn.read a = 0x00#8) ∧
    State.powerOn.traceEnabled = false ∧ State.powerOn.status = .idle) ∧
  (∀ s : State,
    let t := s.resetCommand
    t.a = 0x00#8 ∧ t.x = 0x00#8 ∧ t.y = s.y ∧ t.sp = 0xFD#8 ∧ t.p = 0x00#8 ∧
    t.pc = concat16 (s.read 0xFFFD#16) (s.read 0xFFFC#16) ∧ (∀ a, t.read a = s.read a) ∧
    t.traceEnabled = s.traceEnabled ∧ t.status = .idle) ∧
  State.reset = State.powerOn.resetCommand

/-- 70_reset_and_hazards.md section 3: a load of at most 0x8000 bytes succeeds: byte k of the image is at 0x8000 + k but
where the vector stands, the vector reads 0x8000 (D21), every other byte and everything else is unchanged. -/
def Obligations.LoadInstallsTheImage : Prop :=
  ∀ (s : State) (bytes : List Byte), bytes.length ≤ 0x8000 →
    ∃ t, s.load bytes = .ok t ∧ t = s.setMem t.mem ∧ t.read 0xFFFC#16 = 0x00#8 ∧ t.read 0xFFFD#16 = 0x80#8 ∧
      ∀ a : Word, a ≠ 0xFFFC#16 → a ≠ 0xFFFD#16 →
        t.read a = if a.toNat < 0x8000 then s.read a else bytes.getD (a.toNat - 0x8000) (s.read a)

/-- 70_reset_and_hazards.md section 3 (decision D14): a load of more than 0x8000 bytes fails with its length, and the
command leaves the core as it was. -/
def Obligations.OversizedLoadChangesNothing : Prop :=
  ∀ (s : State) (bytes : List Byte) (fuel : Nat), 0x8000 < bytes.length → s.status = .idle →
    s.load bytes = .error (.loadTooLarge bytes.length) ∧
    engine.command fuel (.live s) (.load bytes) = .ok ⟨.live s, .fault (.loadTooLarge bytes.length), []⟩ ∧
    engine.command fuel (.live s) (.loadAndRun bytes) = .ok ⟨.live s, .fault (.loadTooLarge bytes.length), []⟩

/-- 70_reset_and_hazards.md section 3, `load_and_run` (D21): after a successful load and a reset the first instruction is
fetched at 0x8000 with A, X and P zero, S 0xFD and Y as it was, and the command is the run from there. -/
def Obligations.LoadAndRunStartsAtTheImage : Prop :=
  ∀ (s : State) (bytes : List Byte) (fuel : Nat), bytes.length ≤ 0x8000 → s.status = .idle →
    ∃ t, s.load bytes = .ok t ∧
      engine.command fuel (.live s) (.loadAndRun bytes) = engine.run fuel t.resetCommand ∧
      t.resetCommand.pc = 0x8000#16 ∧ t.resetCommand.a = 0x00#8 ∧ t.resetCommand.x = 0x00#8 ∧
      t.resetCommand.p = 0x00#8 ∧ t.resetCommand.sp = 0xFD#8 ∧ t.resetCommand.y = s.y

/-- 40_execution_loop.md section 1, `run` (decision D17): the runner's fuel decides only whether the run ends: a run that
halts or faults does the same with more fuel, and a halted core is Idle. -/
def Obligations.MoreFuelNeverChangesAnEndedRun : Prop :=
  ∀ (n k : Nat) (s : State),
    (∀ t, engine.runLoop n s = .halted t → engine.runLoop (n + k) s = .halted t ∧ t.status = .idle) ∧
    (∀ f, engine.runLoop n s = .fault f → engine.runLoop (n + k) s = .fault f)

/-- 00_scope.md section 3, 10_state.md section 6, 60_exceptions.md section 1 (D9): no command is accepted while `run`
executes; after a fault only `new` is, and it gives the power-on state. -/
def Obligations.CommandsWaitForRunAndEndAtFaults : Prop :=
  (∀ (fuel : Nat) (s : State) (c : Command), s.status = .running →
    engine.command fuel (.live s) c = .error .duringRun) ∧
  (∀ (fuel : Nat) (f : Fault) (c : Command), c ≠ .new → engine.command fuel (.faulted f) c = .error (.afterFault f)) ∧
  (∀ (fuel : Nat) (f : Fault), engine.command fuel (.faulted f) .new = .ok ⟨.live State.powerOn, .ok, []⟩)

/-- 10_state.md section 6 (decisions D12, D19): an accessor's write is what its read gives back, of a register and of a byte
of memory, and it changes no other register or byte, nor the trace flag, nor the run status. That the argument is 16 bits
wide, and an 8-bit register stores its low byte, is the model's (log 18, DESIGN CHOICE). -/
def Obligations.AccessorsStoreWhatTheyAreGiven : Prop :=
  ∀ (s : State) (r q : RegisterId) (v : Word) (a b : Word) (w : Byte),
    (s.writeRegister v r).readRegister q =
      (if q = r then (if r = .pc then v else zext16 (lowByte v)) else s.readRegister q) ∧
    (s.writeRegister v r).mem = s.mem ∧ (s.writeRegister v r).traceEnabled = s.traceEnabled ∧
    (s.writeRegister v r).status = s.status ∧
    (s.write a w).read b = (if b = a then w else s.read b) ∧ (s.write a w).readRegister q = s.readRegister q ∧
    (s.write a w).traceEnabled = s.traceEnabled ∧ (s.write a w).status = s.status
end

