-- ==== Sys2Proof/Laws/State.lean ====
section
/-! SUPPORT. One lemma per field per update of State, and what the four 8-bit registers and memory reads see of each
update. -/

namespace Sys2Proof.Machine

open Sys2Proof

section setA
variable (s : State) (v : Byte)

@[simp] theorem setA_a : (s.setA v).a = v := rfl
@[simp] theorem setA_x : (s.setA v).x = s.x := rfl
@[simp] theorem setA_y : (s.setA v).y = s.y := rfl
@[simp] theorem setA_sp : (s.setA v).sp = s.sp := rfl
@[simp] theorem setA_pc : (s.setA v).pc = s.pc := rfl
@[simp] theorem setA_p : (s.setA v).p = s.p := rfl
@[simp] theorem setA_mem : (s.setA v).mem = s.mem := rfl
@[simp] theorem setA_traceEnabled : (s.setA v).traceEnabled = s.traceEnabled := rfl
@[simp] theorem setA_status : (s.setA v).status = s.status := rfl
@[simp] theorem setA_read (addr : Word) : (s.setA v).read addr = s.read addr := rfl
@[simp] theorem setA_opAddr : (s.setA v).opAddr = s.opAddr := rfl

end setA

section setX
variable (s : State) (v : Byte)

@[simp] theorem setX_a : (s.setX v).a = s.a := rfl
@[simp] theorem setX_x : (s.setX v).x = v := rfl
@[simp] theorem setX_y : (s.setX v).y = s.y := rfl
@[simp] theorem setX_sp : (s.setX v).sp = s.sp := rfl
@[simp] theorem setX_pc : (s.setX v).pc = s.pc := rfl
@[simp] theorem setX_p : (s.setX v).p = s.p := rfl
@[simp] theorem setX_mem : (s.setX v).mem = s.mem := rfl
@[simp] theorem setX_traceEnabled : (s.setX v).traceEnabled = s.traceEnabled := rfl
@[simp] theorem setX_status : (s.setX v).status = s.status := rfl
@[simp] theorem setX_read (addr : Word) : (s.setX v).read addr = s.read addr := rfl
@[simp] theorem setX_opAddr : (s.setX v).opAddr = s.opAddr := rfl

end setX

section setY
variable (s : State) (v : Byte)

@[simp] theorem setY_a : (s.setY v).a = s.a := rfl
@[simp] theorem setY_x : (s.setY v).x = s.x := rfl
@[simp] theorem setY_y : (s.setY v).y = v := rfl
@[simp] theorem setY_sp : (s.setY v).sp = s.sp := rfl
@[simp] theorem setY_pc : (s.setY v).pc = s.pc := rfl
@[simp] theorem setY_p : (s.setY v).p = s.p := rfl
@[simp] theorem setY_mem : (s.setY v).mem = s.mem := rfl
@[simp] theorem setY_traceEnabled : (s.setY v).traceEnabled = s.traceEnabled := rfl
@[simp] theorem setY_status : (s.setY v).status = s.status := rfl
@[simp] theorem setY_read (addr : Word) : (s.setY v).read addr = s.read addr := rfl
@[simp] theorem setY_opAddr : (s.setY v).opAddr = s.opAddr := rfl

end setY

section setSp
variable (s : State) (v : Byte)

@[simp] theorem setSp_a : (s.setSp v).a = s.a := rfl
@[simp] theorem setSp_x : (s.setSp v).x = s.x := rfl
@[simp] theorem setSp_y : (s.setSp v).y = s.y := rfl
@[simp] theorem setSp_sp : (s.setSp v).sp = v := rfl
@[simp] theorem setSp_pc : (s.setSp v).pc = s.pc := rfl
@[simp] theorem setSp_p : (s.setSp v).p = s.p := rfl
@[simp] theorem setSp_mem : (s.setSp v).mem = s.mem := rfl
@[simp] theorem setSp_traceEnabled : (s.setSp v).traceEnabled = s.traceEnabled := rfl
@[simp] theorem setSp_status : (s.setSp v).status = s.status := rfl
@[simp] theorem setSp_read (addr : Word) : (s.setSp v).read addr = s.read addr := rfl
@[simp] theorem setSp_opAddr : (s.setSp v).opAddr = s.opAddr := rfl

end setSp

section setPc
variable (s : State) (v : Word)

@[simp] theorem setPc_a : (s.setPc v).a = s.a := rfl
@[simp] theorem setPc_x : (s.setPc v).x = s.x := rfl
@[simp] theorem setPc_y : (s.setPc v).y = s.y := rfl
@[simp] theorem setPc_sp : (s.setPc v).sp = s.sp := rfl
@[simp] theorem setPc_pc : (s.setPc v).pc = v := rfl
@[simp] theorem setPc_p : (s.setPc v).p = s.p := rfl
@[simp] theorem setPc_mem : (s.setPc v).mem = s.mem := rfl
@[simp] theorem setPc_traceEnabled : (s.setPc v).traceEnabled = s.traceEnabled := rfl
@[simp] theorem setPc_status : (s.setPc v).status = s.status := rfl
@[simp] theorem setPc_read (addr : Word) : (s.setPc v).read addr = s.read addr := rfl

end setPc

section setP
variable (s : State) (v : Byte)

@[simp] theorem setP_a : (s.setP v).a = s.a := rfl
@[simp] theorem setP_x : (s.setP v).x = s.x := rfl
@[simp] theorem setP_y : (s.setP v).y = s.y := rfl
@[simp] theorem setP_sp : (s.setP v).sp = s.sp := rfl
@[simp] theorem setP_pc : (s.setP v).pc = s.pc := rfl
@[simp] theorem setP_p : (s.setP v).p = v := rfl
@[simp] theorem setP_mem : (s.setP v).mem = s.mem := rfl
@[simp] theorem setP_traceEnabled : (s.setP v).traceEnabled = s.traceEnabled := rfl
@[simp] theorem setP_status : (s.setP v).status = s.status := rfl
@[simp] theorem setP_read (addr : Word) : (s.setP v).read addr = s.read addr := rfl
@[simp] theorem setP_opAddr : (s.setP v).opAddr = s.opAddr := rfl

end setP

section setMem
variable (s : State) (v : Memory)

@[simp] theorem setMem_a : (s.setMem v).a = s.a := rfl
@[simp] theorem setMem_x : (s.setMem v).x = s.x := rfl
@[simp] theorem setMem_y : (s.setMem v).y = s.y := rfl
@[simp] theorem setMem_sp : (s.setMem v).sp = s.sp := rfl
@[simp] theorem setMem_pc : (s.setMem v).pc = s.pc := rfl
@[simp] theorem setMem_p : (s.setMem v).p = s.p := rfl
@[simp] theorem setMem_mem : (s.setMem v).mem = v := rfl
@[simp] theorem setMem_traceEnabled : (s.setMem v).traceEnabled = s.traceEnabled := rfl
@[simp] theorem setMem_status : (s.setMem v).status = s.status := rfl
@[simp] theorem setMem_opAddr : (s.setMem v).opAddr = s.opAddr := rfl

end setMem

section setTrace
variable (s : State) (v : Bool)

@[simp] theorem setTrace_a : (s.setTrace v).a = s.a := rfl
@[simp] theorem setTrace_x : (s.setTrace v).x = s.x := rfl
@[simp] theorem setTrace_y : (s.setTrace v).y = s.y := rfl
@[simp] theorem setTrace_sp : (s.setTrace v).sp = s.sp := rfl
@[simp] theorem setTrace_pc : (s.setTrace v).pc = s.pc := rfl
@[simp] theorem setTrace_p : (s.setTrace v).p = s.p := rfl
@[simp] theorem setTrace_mem : (s.setTrace v).mem = s.mem := rfl
@[simp] theorem setTrace_traceEnabled : (s.setTrace v).traceEnabled = v := rfl
@[simp] theorem setTrace_status : (s.setTrace v).status = s.status := rfl
@[simp] theorem setTrace_read (addr : Word) : (s.setTrace v).read addr = s.read addr := rfl
@[simp] theorem setTrace_opAddr : (s.setTrace v).opAddr = s.opAddr := rfl

end setTrace

section setStatus
variable (s : State) (v : RunStatus)

@[simp] theorem setStatus_a : (s.setStatus v).a = s.a := rfl
@[simp] theorem setStatus_x : (s.setStatus v).x = s.x := rfl
@[simp] theorem setStatus_y : (s.setStatus v).y = s.y := rfl
@[simp] theorem setStatus_sp : (s.setStatus v).sp = s.sp := rfl
@[simp] theorem setStatus_pc : (s.setStatus v).pc = s.pc := rfl
@[simp] theorem setStatus_p : (s.setStatus v).p = s.p := rfl
@[simp] theorem setStatus_mem : (s.setStatus v).mem = s.mem := rfl
@[simp] theorem setStatus_traceEnabled : (s.setStatus v).traceEnabled = s.traceEnabled := rfl
@[simp] theorem setStatus_status : (s.setStatus v).status = v := rfl
@[simp] theorem setStatus_read (addr : Word) : (s.setStatus v).read addr = s.read addr := rfl
@[simp] theorem setStatus_opAddr : (s.setStatus v).opAddr = s.opAddr := rfl

end setStatus

section write
variable (s : State) (addr : Word) (v : Byte)

@[simp] theorem write_a : (s.write addr v).a = s.a := rfl
@[simp] theorem write_x : (s.write addr v).x = s.x := rfl
@[simp] theorem write_y : (s.write addr v).y = s.y := rfl
@[simp] theorem write_sp : (s.write addr v).sp = s.sp := rfl
@[simp] theorem write_pc : (s.write addr v).pc = s.pc := rfl
@[simp] theorem write_p : (s.write addr v).p = s.p := rfl
@[simp] theorem write_mem : (s.write addr v).mem = s.mem.write addr v := rfl
@[simp] theorem write_traceEnabled : (s.write addr v).traceEnabled = s.traceEnabled := rfl
@[simp] theorem write_status : (s.write addr v).status = s.status := rfl
@[simp] theorem write_opAddr : (s.write addr v).opAddr = s.opAddr := rfl

end write

/-- The four 8-bit registers by name. -/
theorem reg_cases (s : State) :
    s.reg .a = s.a ∧ s.reg .x = s.x ∧ s.reg .y = s.y ∧ s.reg .s = s.sp := ⟨rfl, rfl, rfl, rfl⟩

@[simp] theorem reg_a (s : State) : s.reg .a = s.a := rfl
@[simp] theorem reg_x (s : State) : s.reg .x = s.x := rfl
@[simp] theorem reg_y (s : State) : s.reg .y = s.y := rfl
@[simp] theorem reg_s (s : State) : s.reg .s = s.sp := rfl

end Sys2Proof.Machine
end

