-- ==== Sys2Proof/Laws/Memory.lean ====
section
/-! SUPPORT. The laws of the memory array: what a read sees of a write, and that every operation keeps the canonical
form. The read laws hold of every list; only the canonical form needs the canonical form. -/

namespace Sys2Proof.Machine

open Sys2Proof

theorem readAt_eraseAt (m : Memory) (a b : Nat) :
    (m.eraseAt a).readAt b = if a = b then Memory.unwritten else m.readAt b := by
  induction m with
  | nil => simp [Memory.eraseAt, Memory.readAt]
  | cons c m ih =>
    obtain ⟨k, w⟩ := c
    by_cases hk : k = a
    · simp only [Memory.eraseAt, Memory.readAt, hk, if_true, ih]
      split <;> simp_all
    · simp only [Memory.eraseAt, Memory.readAt, if_neg hk, ih]
      by_cases hb : k = b
      · subst hb; simp [Ne.symm hk]
      · simp [hb]

theorem readAt_insertAt (m : Memory) (a b : Nat) (v : Byte) (h : m.readAt a = Memory.unwritten ∧ ∀ w, (a, w) ∉ m) :
    (m.insertAt a v).readAt b = if a = b then v else m.readAt b := by
  induction m with
  | nil => simp [Memory.insertAt, Memory.readAt]
  | cons c m ih =>
    obtain ⟨k, w⟩ := c
    obtain ⟨h1, h2⟩ := h
    have hk : k ≠ a := fun e => h2 w (by simp [e])
    have h2' : ∀ w', (a, w') ∉ m := fun w' hm => h2 w' (List.mem_cons_of_mem _ hm)
    have h1' : Memory.readAt m a = Memory.unwritten := by simpa [Memory.readAt, hk] using h1
    by_cases hlt : a < k
    · simp [Memory.insertAt, Memory.readAt, hlt]
    · simp only [Memory.insertAt, Memory.readAt, if_neg hlt, ih ⟨h1', h2'⟩]
      by_cases hb : k = b
      · subst hb; simp [Ne.symm hk]
      · simp [hb]

theorem not_mem_eraseAt (m : Memory) (a : Nat) (w : Byte) : (a, w) ∉ m.eraseAt a := by
  induction m with
  | nil => simp [Memory.eraseAt]
  | cons c m ih =>
    obtain ⟨k, u⟩ := c
    by_cases hk : k = a
    · simpa [Memory.eraseAt, hk] using ih
    · simp [Memory.eraseAt, hk, ih, Ne.symm hk]

theorem readAt_writeAt (m : Memory) (a b : Nat) (v : Byte) :
    (m.writeAt a v).readAt b = if a = b then v else m.readAt b := by
  unfold Memory.writeAt
  split
  · simp_all [readAt_eraseAt]
  · rw [readAt_insertAt _ _ _ _ ⟨by simp [readAt_eraseAt], not_mem_eraseAt m a⟩, readAt_eraseAt]
    by_cases h : a = b <;> simp [h]

/-- 20_memory.md R47, R58: a read returns the last byte written there, and a write leaves every other address alone. -/
theorem read_write (m : Memory) (a b : Word) (v : Byte) :
    (m.write a v).read b = if a = b then v else m.read b := by
  simp [Memory.read, Memory.write, readAt_writeAt, BitVec.toNat_inj]

@[simp] theorem state_read_write (s : State) (a b : Word) (v : Byte) :
    (s.write a v).read b = if a = b then v else s.read b := read_write s.mem a b v

@[simp] theorem state_read_setMem (s : State) (m : Memory) (a : Word) : (s.setMem m).read a = m.read a := rfl

@[simp] theorem read_nil (a : Word) : Memory.read [] a = 0x00#8 := rfl

/-! ### The canonical form -/

theorem wfFrom_mono {m : Memory} {lo lo' : Nat} (h : Memory.wfFrom lo m = true) (hl : lo' ≤ lo) :
    Memory.wfFrom lo' m = true := by
  cases m with
  | nil => rfl
  | cons c m =>
    simp only [Memory.wfFrom, Bool.and_eq_true, decide_eq_true_eq] at h ⊢
    exact ⟨⟨⟨by omega, h.1.1.2⟩, h.1.2⟩, h.2⟩

theorem wfFrom_eraseAt {m : Memory} {lo a : Nat} (h : Memory.wfFrom lo m = true) :
    Memory.wfFrom lo (m.eraseAt a) = true := by
  induction m generalizing lo with
  | nil => rfl
  | cons c m ih =>
    obtain ⟨k, w⟩ := c
    simp only [Memory.wfFrom, Bool.and_eq_true, decide_eq_true_eq] at h
    by_cases hk : k = a
    · simp only [Memory.eraseAt, hk, if_true]
      exact ih (wfFrom_mono h.2 (by omega))
    · simp only [Memory.eraseAt, hk, if_false, Memory.wfFrom, Bool.and_eq_true, decide_eq_true_eq]
      exact ⟨h.1, ih h.2⟩

theorem wfFrom_insertAt {m : Memory} {lo a : Nat} {v : Byte} (h : Memory.wfFrom lo m = true) (hlo : lo ≤ a)
    (ha : a < 65536) (hv : v ≠ Memory.unwritten) (hm : ∀ w, (a, w) ∉ m) :
    Memory.wfFrom lo (m.insertAt a v) = true := by
  induction m generalizing lo with
  | nil => simp [Memory.insertAt, Memory.wfFrom, hlo, ha, hv]
  | cons c m ih =>
    obtain ⟨k, w⟩ := c
    simp only [Memory.wfFrom, Bool.and_eq_true, decide_eq_true_eq] at h
    have hk : k ≠ a := fun e => hm w (by simp [e])
    by_cases hlt : a < k
    · simp only [Memory.insertAt, hlt, if_true, Memory.wfFrom, Bool.and_eq_true, decide_eq_true_eq]
      exact ⟨⟨⟨hlo, ha⟩, by simpa using hv⟩, ⟨⟨by omega, h.1.1.2⟩, h.1.2⟩, h.2⟩
    · simp only [Memory.insertAt, hlt, if_false, Memory.wfFrom, Bool.and_eq_true, decide_eq_true_eq]
      exact ⟨h.1, ih h.2 (by omega) fun w' hw => hm w' (List.mem_cons_of_mem _ hw)⟩

/-- Every write keeps the canonical form. -/
theorem write_wf {m : Memory} (h : m.wf = true) (a : Word) (v : Byte) : (m.write a v).wf = true := by
  unfold Memory.write Memory.writeAt Memory.wf
  split
  · exact wfFrom_eraseAt h
  · rename_i hv
    exact wfFrom_insertAt (wfFrom_eraseAt h) (Nat.zero_le _) a.isLt hv (not_mem_eraseAt m _)

theorem writeBytes_wf {m : Memory} (h : m.wf = true) (a : Word) (bs : List Byte) : (m.writeBytes a bs).wf = true := by
  induction bs generalizing m a with
  | nil => exact h
  | cons b bs ih => exact ih (write_wf h a b) (a + 1#16)

/-- Reset's memory is in canonical form. -/
theorem reset_mem_wf : State.reset.mem.wf = true := rfl

end Sys2Proof.Machine
end

