-- ==== Sys2Proof/Laws/Flags.lean ====
section
/-! SUPPORT. The laws of the status register: what a flag read sees of a flag write, of SetZN, and of the bytes PHP, PLP and
RTI pass; P is determined by its eight flags. -/

namespace Sys2Proof.Machine

open Sys2Proof

/-- 10_state.md R25: setting one flag writes only that bit. -/
@[simp] theorem get_setFlag (p : Byte) (f g : Flag) (b : Bool) :
    getFlag (setFlag p f b) g = if f = g then b else getFlag p g := by
  cases b <;> cases f <;> cases g <;> simp [getFlag, setFlag, flagMask, flagBit]

/-- 40_execution_loop.md R113. -/
@[simp] theorem get_setZN (p v : Byte) (g : Flag) :
    getFlag (setZN p v) g =
      if g = .negative then v.getLsbD 7 else if g = .zero then (v == 0x00#8) else getFlag p g := by
  cases g <;> simp [setZN]

/-- 47_stack_rti.md R167. -/
@[simp] theorem get_pushedStatus (p : Byte) (g : Flag) :
    getFlag (pushedStatus p) g = if g = .brk ∨ g = .one then true else getFlag p g := by
  cases g <;> simp [getFlag, pushedStatus, flagBit]

/-- 47_stack_rti.md R168. -/
@[simp] theorem get_pulledStatus (v : Byte) (g : Flag) :
    getFlag (pulledStatus v) g = if g = .brk then false else getFlag v g := by
  cases g <;> simp [getFlag, pulledStatus, flagBit]

/-- Two status bytes with the same eight flags are the same byte. -/
theorem status_ext {p q : Byte} (h : ∀ f, getFlag p f = getFlag q f) : p = q := by
  apply BitVec.eq_of_getLsbD_eq
  intro i hi
  have : i = 0 ∨ i = 1 ∨ i = 2 ∨ i = 3 ∨ i = 4 ∨ i = 5 ∨ i = 6 ∨ i = 7 := by omega
  rcases this with e | e | e | e | e | e | e | e <;> subst e
  exacts [h .carry, h .zero, h .interruptDisable, h .decimal, h .brk, h .one, h .overflow, h .negative]

end Sys2Proof.Machine
end

