-- ==== Sys2Proof/Laws/Ops.lean ====
section
/-! SUPPORT. One lemma for each shared operation that says everything it can do on this hardware, where
`AddressWrapPolicy = Wrap` (D8): provers cite these and do not unfold the operations. -/

namespace Sys2Proof.Machine

open Sys2Proof

@[simp] theorem ok_bind {ε α β : Type} (a : α) (f : α → Except ε β) : (Except.ok a >>= f) = f a := rfl
@[simp] theorem error_bind {ε α β : Type} (e : ε) (f : α → Except ε β) : (Except.error e >>= f) = .error e := rfl

@[simp] theorem finish_ok (s : State) : finish (.ok s) = .next s := rfl
@[simp] theorem finish_error (f : Fault) : finish (.error f) = .fault f := rfl

theorem finish_next {r : Except Fault State} {t : State} : finish r = .next t ↔ r = .ok t := by
  cases r <;> simp [finish]

theorem finish_fault {r : Except Fault State} {f : Fault} : finish r = .fault f ↔ r = .error f := by
  cases r <;> simp [finish]

theorem finish_not_refused (r : Except Fault State) (q : Refusal) : finish r ≠ .refused q := by
  cases r <;> simp [finish]

/-- R90 under `Wrap`: an address step never faults. -/
@[simp] theorem addrStep_eq (o a : Word) (d : Int) : hardware.addrStep o a d = .ok (a + BitVec.ofInt 16 d) := rfl

/-- R51 under `Wrap`. -/
@[simp] theorem read16_eq (s : State) (a : Word) : hardware.read16 s a = .ok (concat16 (s.read (a + 1#16)) (s.read a)) := rfl

/-- R93 under `Wrap`. -/
@[simp] theorem advance_eq (len : Nat) (s : State) :
    hardware.advance len s = .ok (s.setPc (s.pc + BitVec.ofInt 16 ((len : Int) - 1))) := rfl

/-- R93: a one-byte instruction's advance leaves PC where the fetch left it. -/
@[simp] theorem advance_one (s : State) : hardware.advance 1 s = .ok s := by
  simp [State.setPc]

/-- R108: everything a push can do. -/
theorem push_eq (s : State) (v : Byte) :
    s.push v = if s.sp = 0x00#8 then .error (.stackOverflow 0x00#8 s.opAddr)
      else .ok ((s.write (stackAddr s.sp) v).setSp (s.sp - 1#8)) := by
  unfold State.push; split <;> simp_all

/-- R109: everything a pop can do. -/
theorem pop_eq (s : State) :
    s.pop = if s.sp = 0xFF#8 then .error (.stackUnderflow 0xFF#8 s.opAddr)
      else .ok (s.read (stackAddr (s.sp + 1#8)), s.setSp (s.sp + 1#8)) := by
  unfold State.pop; split <;> simp_all

/-- R110: everything a 16-bit push can do. -/
theorem push16_eq (s : State) (v : Word) :
    s.push16 v =
      if s.sp = 0x00#8 ∨ s.sp = 0x01#8 then .error (.stackOverflow 0x00#8 s.opAddr)
      else .ok (((s.write (stackAddr s.sp) (highByte v)).write (stackAddr (s.sp - 1#8)) (lowByte v)).setSp (s.sp - 2#8)) := by
  have e1 : s.sp - 1#8 = 0#8 ↔ s.sp = 1#8 := by bv_omega
  have e2 : s.sp - 1#8 - 1#8 = s.sp - 2#8 := by bv_omega
  unfold State.push16
  rw [push_eq]
  by_cases h0 : s.sp = 0x00#8
  · simp [h0]
  · rw [if_neg h0]
    by_cases h1 : s.sp = 0x01#8
    · simp [push_eq, h1]
    · simp [push_eq, h0, h1, e1, e2]
      rfl

/-- R111: everything a 16-bit pop can do. -/
theorem pop16_eq (s : State) :
    s.pop16 =
      if s.sp = 0xFF#8 ∨ s.sp = 0xFE#8 then .error (.stackUnderflow 0xFF#8 s.opAddr)
      else .ok (concat16 (s.read (stackAddr (s.sp + 2#8))) (s.read (stackAddr (s.sp + 1#8))), s.setSp (s.sp + 2#8)) := by
  have e1 : s.sp + 1#8 = 255#8 ↔ s.sp = 254#8 := by bv_omega
  have e2 : s.sp + 1#8 + 1#8 = s.sp + 2#8 := by bv_omega
  unfold State.pop16
  rw [pop_eq]
  by_cases h0 : s.sp = 0xFF#8
  · simp [h0]
  · rw [if_neg h0]
    by_cases h1 : s.sp = 0xFE#8
    · simp [pop_eq, h1]
    · simp [pop_eq, h0, h1, e1, e2]
      rfl

/-! ### Numbers -/

theorem toNat_zext16 (b : Byte) : (zext16 b).toNat = b.toNat := by
  simp [zext16]
  omega

theorem toNat_concat16 (hi lo : Byte) : (concat16 hi lo).toNat = hi.toNat * 256 + lo.toNat := by
  unfold concat16
  rw [BitVec.toNat_append, ← Nat.shiftLeft_add_eq_or_of_lt lo.isLt, Nat.shiftLeft_eq]

/-- 00_scope.md R12: a word is its high byte and its low byte. -/
@[simp] theorem concat16_high_low (v : Word) : concat16 (highByte v) (lowByte v) = v := by
  apply BitVec.eq_of_toNat_eq
  rw [toNat_concat16]
  simp only [highByte, lowByte, BitVec.extractLsb'_toNat, Nat.shiftRight_eq_div_pow]
  omega

@[simp] theorem lowByte_zext16 (b : Byte) : lowByte (zext16 b) = b := by
  apply BitVec.eq_of_toNat_eq
  simp [lowByte, toNat_zext16]
  omega

theorem toNat_stackAddr (sp : Byte) : (stackAddr sp).toNat = 256 + sp.toNat := by
  simp [stackAddr, Config.stackPage, toNat_zext16]
  omega

@[simp] theorem stackAddr_inj (a b : Byte) : stackAddr a = stackAddr b ↔ a = b := by
  rw [← BitVec.toNat_inj, ← BitVec.toNat_inj, toNat_stackAddr, toNat_stackAddr]
  omega

/-- 20_memory.md R55: where a push writes and a pop reads. -/
theorem stackAddr_bounds {sp : Byte} (h : sp ≠ 0x00#8) : 0x0101 ≤ (stackAddr sp).toNat ∧ (stackAddr sp).toNat ≤ 0x01FF := by
  have h0 : sp.toNat ≠ 0 := fun e => h (BitVec.eq_of_toNat_eq (by simpa using e))
  have := sp.isLt
  rw [toNat_stackAddr]
  omega

/-! ### Consecutive bytes -/

/-- 70_reset_and_hazards.md R200: a copy that does not pass 0xFFFF leaves byte `k` at `addr + k` and every other byte as it
was. -/
theorem read_writeBytes (m : Memory) (addr b : Word) (bytes : List Byte) (h : addr.toNat + bytes.length ≤ 65536) :
    (m.writeBytes addr bytes).read b =
      if b.toNat < addr.toNat then m.read b else bytes.getD (b.toNat - addr.toNat) (m.read b) := by
  induction bytes generalizing m addr with
  | nil => simp [Memory.writeBytes]
  | cons v bytes ih =>
    simp only [List.length_cons] at h
    by_cases hlast : addr.toNat = 65535
    · have hb : bytes = [] := List.length_eq_zero_iff.1 (by omega)
      subst hb
      simp only [Memory.writeBytes, read_write]
      split
      · rename_i e
        subst e
        simp
      · rename_i e
        rw [← BitVec.toNat_inj] at e
        have := b.isLt
        rw [if_pos (by omega)]
    · have hn : (addr + 1#16).toNat = addr.toNat + 1 := by
        have := addr.isLt
        bv_omega
      rw [Memory.writeBytes, ih _ _ (by omega), hn, read_write]
      by_cases e : addr = b
      · subst e
        simp
      · have e' := e
        rw [← BitVec.toNat_inj] at e'
        simp only [if_neg e]
        by_cases hlt : b.toNat < addr.toNat
        · rw [if_pos hlt, if_pos (by omega)]
        · obtain ⟨k, hk⟩ : ∃ k, b.toNat - addr.toNat = k + 1 := ⟨b.toNat - addr.toNat - 1, by omega⟩
          have hk' : b.toNat - (addr.toNat + 1) = k := by omega
          rw [if_neg hlt, if_neg (by omega), hk, hk']
          simp

end Sys2Proof.Machine
end

