-- ==== Sys2Proof/Laws/Operands.lean ====
section
/-! SUPPORT. What the resolver gives in each mode on this hardware (40_execution_loop.md R97 to R106), and the shared
read-modify-write. -/

namespace Sys2Proof.Machine

open Sys2Proof

section resolver
variable (s : State)

@[simp] theorem resolve_immediate : hardware.resolve .immediate s = .ok s.pc := rfl
@[simp] theorem resolve_zeroPage : hardware.resolve .zeroPage s = .ok (zext16 (s.read s.pc)) := rfl
@[simp] theorem resolve_zeroPageX : hardware.resolve .zeroPageX s = .ok (zext16 (s.read s.pc + s.x)) := rfl
@[simp] theorem resolve_zeroPageY : hardware.resolve .zeroPageY s = .ok (zext16 (s.read s.pc + s.y)) := rfl
@[simp] theorem resolve_absolute : hardware.resolve .absolute s = .ok (concat16 (s.read (s.pc + 1#16)) (s.read s.pc)) := rfl
@[simp] theorem resolve_absoluteX :
    hardware.resolve .absoluteX s = .ok (concat16 (s.read (s.pc + 1#16)) (s.read s.pc) + zext16 s.x) := rfl
@[simp] theorem resolve_absoluteY :
    hardware.resolve .absoluteY s = .ok (concat16 (s.read (s.pc + 1#16)) (s.read s.pc) + zext16 s.y) := rfl
@[simp] theorem resolve_indirect :
    hardware.resolve .indirect s =
      .ok (concat16 (s.read (concat16 (s.read (s.pc + 1#16)) (s.read s.pc) + 1#16))
        (s.read (concat16 (s.read (s.pc + 1#16)) (s.read s.pc)))) := rfl
@[simp] theorem resolve_indirectX :
    hardware.resolve .indirectX s = .ok (s.zeroPagePointer (s.read s.pc + s.x)) := rfl
@[simp] theorem resolve_indirectY :
    hardware.resolve .indirectY s = .ok (s.zeroPagePointer (s.read s.pc) + zext16 s.y) := rfl

/-- R105. -/
@[simp] theorem resolve_relative : hardware.resolve .relative s = .ok (s.pc + sext16 (s.read s.pc) + 1#16) := by
  simp only [Params.resolve, addrStep_eq, BitVec.ofInt_add, sext16, BitVec.signExtend, BitVec.add_assoc]
  rfl

end resolver

/-- R106: the resolver fails in the two modes that have no effective address, and in no other. -/
theorem resolve_ok_iff (m : AddressingMode) (s : State) :
    (∃ ad, hardware.resolve m s = .ok ad) ↔ m ≠ .accumulator ∧ m ≠ .noneAddressing := by
  cases m <;> simp [Params.resolve]

/-- R107: everything a read-modify-write can do. -/
theorem readModifyWrite_accumulator (f : Byte → Byte → Byte × Byte) (s : State) :
    hardware.readModifyWrite .accumulator f s = .ok ((s.setP (f s.p s.a).2).setA (f s.p s.a).1) := rfl

theorem readModifyWrite_memory {m : AddressingMode} {s : State} {ad : Word} (f : Byte → Byte → Byte × Byte)
    (hm : m ≠ .accumulator) (h : hardware.resolve m s = .ok ad) :
    hardware.readModifyWrite m f s = .ok ((s.setP (f s.p (s.read ad)).2).write ad (f s.p (s.read ad)).1) := by
  cases m <;> simp_all [Params.readModifyWrite, Params.placeOf, State.readPlace, State.writePlace]

theorem readMemoryOperand_eq {m : AddressingMode} {s : State} {ad : Word} (h : hardware.resolve m s = .ok ad) :
    hardware.readMemoryOperand m s = .ok (s.read ad) := by
  simp [Params.readMemoryOperand, h]

end Sys2Proof.Machine
end

