-- ==== Sys2Proof/Laws/Exec.lean ====
section
/-! SUPPORT. `exec` by mnemonic and mode: the 151 arms are 56 rules (41 to 48) applied to a mode, so a proof about every
variant splits on the mnemonic only. -/

namespace Sys2Proof.Machine

open Sys2Proof

/-- 40_execution_loop.md R88, 30_encoding.md R74: the mnemonic selects the rule and the mode its resolver arm. -/
theorem exec_eq_rule (i : Instr) (s : State) : exec i s = finish (hardware.rule i.mnemonic i.mode i.length s) := by
  cases i <;> rfl

theorem exec_next {i : Instr} {s t : State} : exec i s = .next t ↔ hardware.rule i.mnemonic i.mode i.length s = .ok t := by
  rw [exec_eq_rule, finish_next]

theorem exec_fault {i : Instr} {s : State} {f : Fault} :
    exec i s = .fault f ↔ hardware.rule i.mnemonic i.mode i.length s = .error f := by
  rw [exec_eq_rule, finish_fault]

/-- No instruction is refused: every variant has a meaning. -/
theorem exec_not_refused (i : Instr) (s : State) (q : Refusal) : exec i s ≠ .refused q := by
  rw [exec_eq_rule]
  exact finish_not_refused _ q

/-- The mnemonics whose rule resolves the variant's mode. -/
def usesMode : Mnemonic → Bool
  | .lda | .ldx | .ldy | .sta | .stx | .sty | .adc | .sbc | .and | .ora | .eor | .asl
  | .lsr | .rol | .ror | .cmp | .cpx | .cpy | .inc | .dec | .bit | .jmp => true
  | _ => false

/-- The shifts and rotates, the only mnemonics with an Accumulator form (43_shift_rotate.md R137). -/
def isShift : Mnemonic → Bool
  | .asl | .lsr | .rol | .ror => true
  | _ => false

/-- 30_encoding.md R77, R78: no variant pairs a mnemonic that resolves its mode with a mode that has no address, but for
the accumulator forms of the shifts. -/
theorem mode_resolvable (i : Instr) (h : usesMode i.mnemonic = true) :
    i.mode ≠ .noneAddressing ∧ (i.mode = .accumulator → isShift i.mnemonic = true) := by
  revert h
  cases i <;> decide

/-- Every variant that resolves its mode has an effective address on this hardware. -/
theorem resolve_variant (i : Instr) (s : State) (h : usesMode i.mnemonic = true) (hs : isShift i.mnemonic = false) :
    ∃ ad, hardware.resolve i.mode s = .ok ad := by
  refine (resolve_ok_iff _ _).2 ⟨fun ha => ?_, (mode_resolvable i h).1⟩
  have := (mode_resolvable i h).2 ha
  simp_all

/-- 30_encoding.md R65, R66, R69: everything the decoder can do with a first byte. -/
theorem decode_cons (op : Byte) (rest : List Byte) :
    decode (op :: rest) =
      match entryOf op with
      | none => .error (.unknownOpcode op)
      | some e =>
        if rest.length < e.length - 1 then .error (.missingOperands op)
        else .ok (⟨e.instr, rest.take (e.length - 1)⟩, rest.drop (e.length - 1)) := by
  simp only [decode, decodeBy]
  cases entryOf op with
  | none => rfl
  | some e => by_cases h : rest.length < e.length - 1 <;> simp only [h, if_true, if_false] <;> rfl

/-- The length of the one variant of a mnemonic whose rule resolves no mode (30_encoding.md R67, R78): two bytes for a branch,
three for JSR, one for every other. -/
def fixedLength : Mnemonic → Nat
  | .bcc | .bcs | .beq | .bne | .bmi | .bpl | .bvc | .bvs => 2
  | .jsr => 3
  | _ => 1

theorem length_eq_fixedLength (i : Instr) (h : usesMode i.mnemonic = false) : i.length = fixedLength i.mnemonic := by
  revert h
  cases i <;> decide

/-- 30_encoding.md R67: an Accumulator form is one byte long. -/
theorem length_accumulator {i : Instr} (h : i.mode = .accumulator) : i.length = 1 := by
  simp [Instr.length, h, AddressingMode.formatLength]

/-- 30_encoding.md R76: what the catalog gives for a byte is its row's descriptor. -/
@[simp] theorem catalog_eq (b : Byte) : catalog b = (entryOf b).map CatalogEntry.descriptor := rfl

/-- 30_encoding.md R67, R76: the length in every row is that of its mode's format. -/
theorem entryOf_length {b : Byte} {e : CatalogEntry} (h : entryOf b = some e) : e.length = e.instr.length := by
  have all : ∀ b : Byte, ((entryOf b).all fun e => e.length == e.instr.length) = true := by decide
  simpa [h] using all b

end Sys2Proof.Machine
end

