-- ==== Sys2Proof/Laws/PerInstr.lean ====
section
/-! SUPPORT. One lemma per variant about its row of the catalog: the encoder's byte (30_encoding.md R77) is looked up
(R76) to the variant itself, with the length of its mode's format (R68). -/

namespace Sys2Proof.Laws.CatalogRow

/-- The catalog's entry for the variant's own opcode byte is the variant, with its format's length, and the decoder reads
the variant from that byte with operand bytes of zero. -/
def Statement (i : Instr) : Prop :=
  (entryOf i.opcode).map (fun e => (e.instr, e.length)) = some (i, i.length) ∧
    decodeTableWord 8 i.opcode.toNat = some i

theorem ldaImmediate : Statement .ldaImmediate := by unfold Statement; decide
theorem ldaZeroPage : Statement .ldaZeroPage := by unfold Statement; decide
theorem ldaZeroPageX : Statement .ldaZeroPageX := by unfold Statement; decide
theorem ldaAbsolute : Statement .ldaAbsolute := by unfold Statement; decide
theorem ldaAbsoluteX : Statement .ldaAbsoluteX := by unfold Statement; decide
theorem ldaAbsoluteY : Statement .ldaAbsoluteY := by unfold Statement; decide
theorem ldaIndirectX : Statement .ldaIndirectX := by unfold Statement; decide
theorem ldaIndirectY : Statement .ldaIndirectY := by unfold Statement; decide
theorem ldxImmediate : Statement .ldxImmediate := by unfold Statement; decide
theorem ldxZeroPage : Statement .ldxZeroPage := by unfold Statement; decide
theorem ldxZeroPageY : Statement .ldxZeroPageY := by unfold Statement; decide
theorem ldxAbsolute : Statement .ldxAbsolute := by unfold Statement; decide
theorem ldxAbsoluteY : Statement .ldxAbsoluteY := by unfold Statement; decide
theorem ldyImmediate : Statement .ldyImmediate := by unfold Statement; decide
theorem ldyZeroPage : Statement .ldyZeroPage := by unfold Statement; decide
theorem ldyZeroPageX : Statement .ldyZeroPageX := by unfold Statement; decide
theorem ldyAbsolute : Statement .ldyAbsolute := by unfold Statement; decide
theorem ldyAbsoluteX : Statement .ldyAbsoluteX := by unfold Statement; decide
theorem staZeroPage : Statement .staZeroPage := by unfold Statement; decide
theorem staZeroPageX : Statement .staZeroPageX := by unfold Statement; decide
theorem staAbsolute : Statement .staAbsolute := by unfold Statement; decide
theorem staAbsoluteX : Statement .staAbsoluteX := by unfold Statement; decide
theorem staAbsoluteY : Statement .staAbsoluteY := by unfold Statement; decide
theorem staIndirectX : Statement .staIndirectX := by unfold Statement; decide
theorem staIndirectY : Statement .staIndirectY := by unfold Statement; decide
theorem stxZeroPage : Statement .stxZeroPage := by unfold Statement; decide
theorem stxZeroPageY : Statement .stxZeroPageY := by unfold Statement; decide
theorem stxAbsolute : Statement .stxAbsolute := by unfold Statement; decide
theorem styZeroPage : Statement .styZeroPage := by unfold Statement; decide
theorem styZeroPageX : Statement .styZeroPageX := by unfold Statement; decide
theorem styAbsolute : Statement .styAbsolute := by unfold Statement; decide
theorem tax : Statement .tax := by unfold Statement; decide
theorem tay : Statement .tay := by unfold Statement; decide
theorem txa : Statement .txa := by unfold Statement; decide
theorem tya : Statement .tya := by unfold Statement; decide
theorem tsx : Statement .tsx := by unfold Statement; decide
theorem txs : Statement .txs := by unfold Statement; decide
theorem adcImmediate : Statement .adcImmediate := by unfold Statement; decide
theorem adcZeroPage : Statement .adcZeroPage := by unfold Statement; decide
theorem adcZeroPageX : Statement .adcZeroPageX := by unfold Statement; decide
theorem adcAbsolute : Statement .adcAbsolute := by unfold Statement; decide
theorem adcAbsoluteX : Statement .adcAbsoluteX := by unfold Statement; decide
theorem adcAbsoluteY : Statement .adcAbsoluteY := by unfold Statement; decide
theorem adcIndirectX : Statement .adcIndirectX := by unfold Statement; decide
theorem adcIndirectY : Statement .adcIndirectY := by unfold Statement; decide
theorem sbcImmediate : Statement .sbcImmediate := by unfold Statement; decide
theorem sbcZeroPage : Statement .sbcZeroPage := by unfold Statement; decide
theorem sbcZeroPageX : Statement .sbcZeroPageX := by unfold Statement; decide
theorem sbcAbsolute : Statement .sbcAbsolute := by unfold Statement; decide
theorem sbcAbsoluteX : Statement .sbcAbsoluteX := by unfold Statement; decide
theorem sbcAbsoluteY : Statement .sbcAbsoluteY := by unfold Statement; decide
theorem sbcIndirectX : Statement .sbcIndirectX := by unfold Statement; decide
theorem sbcIndirectY : Statement .sbcIndirectY := by unfold Statement; decide
theorem andImmediate : Statement .andImmediate := by unfold Statement; decide
theorem andZeroPage : Statement .andZeroPage := by unfold Statement; decide
theorem andZeroPageX : Statement .andZeroPageX := by unfold Statement; decide
theorem andAbsolute : Statement .andAbsolute := by unfold Statement; decide
theorem andAbsoluteX : Statement .andAbsoluteX := by unfold Statement; decide
theorem andAbsoluteY : Statement .andAbsoluteY := by unfold Statement; decide
theorem andIndirectX : Statement .andIndirectX := by unfold Statement; decide
theorem andIndirectY : Statement .andIndirectY := by unfold Statement; decide
theorem oraImmediate : Statement .oraImmediate := by unfold Statement; decide
theorem oraZeroPage : Statement .oraZeroPage := by unfold Statement; decide
theorem oraZeroPageX : Statement .oraZeroPageX := by unfold Statement; decide
theorem oraAbsolute : Statement .oraAbsolute := by unfold Statement; decide
theorem oraAbsoluteX : Statement .oraAbsoluteX := by unfold Statement; decide
theorem oraAbsoluteY : Statement .oraAbsoluteY := by unfold Statement; decide
theorem oraIndirectX : Statement .oraIndirectX := by unfold Statement; decide
theorem oraIndirectY : Statement .oraIndirectY := by unfold Statement; decide
theorem eorImmediate : Statement .eorImmediate := by unfold Statement; decide
theorem eorZeroPage : Statement .eorZeroPage := by unfold Statement; decide
theorem eorZeroPageX : Statement .eorZeroPageX := by unfold Statement; decide
theorem eorAbsolute : Statement .eorAbsolute := by unfold Statement; decide
theorem eorAbsoluteX : Statement .eorAbsoluteX := by unfold Statement; decide
theorem eorAbsoluteY : Statement .eorAbsoluteY := by unfold Statement; decide
theorem eorIndirectX : Statement .eorIndirectX := by unfold Statement; decide
theorem eorIndirectY : Statement .eorIndirectY := by unfold Statement; decide
theorem aslAccumulator : Statement .aslAccumulator := by unfold Statement; decide
theorem aslZeroPage : Statement .aslZeroPage := by unfold Statement; decide
theorem aslZeroPageX : Statement .aslZeroPageX := by unfold Statement; decide
theorem aslAbsolute : Statement .aslAbsolute := by unfold Statement; decide
theorem aslAbsoluteX : Statement .aslAbsoluteX := by unfold Statement; decide
theorem lsrAccumulator : Statement .lsrAccumulator := by unfold Statement; decide
theorem lsrZeroPage : Statement .lsrZeroPage := by unfold Statement; decide
theorem lsrZeroPageX : Statement .lsrZeroPageX := by unfold Statement; decide
theorem lsrAbsolute : Statement .lsrAbsolute := by unfold Statement; decide
theorem lsrAbsoluteX : Statement .lsrAbsoluteX := by unfold Statement; decide
theorem rolAccumulator : Statement .rolAccumulator := by unfold Statement; decide
theorem rolZeroPage : Statement .rolZeroPage := by unfold Statement; decide
theorem rolZeroPageX : Statement .rolZeroPageX := by unfold Statement; decide
theorem rolAbsolute : Statement .rolAbsolute := by unfold Statement; decide
theorem rolAbsoluteX : Statement .rolAbsoluteX := by unfold Statement; decide
theorem rorAccumulator : Statement .rorAccumulator := by unfold Statement; decide
theorem rorZeroPage : Statement .rorZeroPage := by unfold Statement; decide
theorem rorZeroPageX : Statement .rorZeroPageX := by unfold Statement; decide
theorem rorAbsolute : Statement .rorAbsolute := by unfold Statement; decide
theorem rorAbsoluteX : Statement .rorAbsoluteX := by unfold Statement; decide
theorem cmpImmediate : Statement .cmpImmediate := by unfold Statement; decide
theorem cmpZeroPage : Statement .cmpZeroPage := by unfold Statement; decide
theorem cmpZeroPageX : Statement .cmpZeroPageX := by unfold Statement; decide
theorem cmpAbsolute : Statement .cmpAbsolute := by unfold Statement; decide
theorem cmpAbsoluteX : Statement .cmpAbsoluteX := by unfold Statement; decide
theorem cmpAbsoluteY : Statement .cmpAbsoluteY := by unfold Statement; decide
theorem cmpIndirectX : Statement .cmpIndirectX := by unfold Statement; decide
theorem cmpIndirectY : Statement .cmpIndirectY := by unfold Statement; decide
theorem cpxImmediate : Statement .cpxImmediate := by unfold Statement; decide
theorem cpxZeroPage : Statement .cpxZeroPage := by unfold Statement; decide
theorem cpxAbsolute : Statement .cpxAbsolute := by unfold Statement; decide
theorem cpyImmediate : Statement .cpyImmediate := by unfold Statement; decide
theorem cpyZeroPage : Statement .cpyZeroPage := by unfold Statement; decide
theorem cpyAbsolute : Statement .cpyAbsolute := by unfold Statement; decide
theorem incZeroPage : Statement .incZeroPage := by unfold Statement; decide
theorem incZeroPageX : Statement .incZeroPageX := by unfold Statement; decide
theorem incAbsolute : Statement .incAbsolute := by unfold Statement; decide
theorem incAbsoluteX : Statement .incAbsoluteX := by unfold Statement; decide
theorem inx : Statement .inx := by unfold Statement; decide
theorem iny : Statement .iny := by unfold Statement; decide
theorem decZeroPage : Statement .decZeroPage := by unfold Statement; decide
theorem decZeroPageX : Statement .decZeroPageX := by unfold Statement; decide
theorem decAbsolute : Statement .decAbsolute := by unfold Statement; decide
theorem decAbsoluteX : Statement .decAbsoluteX := by unfold Statement; decide
theorem dex : Statement .dex := by unfold Statement; decide
theorem dey : Statement .dey := by unfold Statement; decide
theorem bitZeroPage : Statement .bitZeroPage := by unfold Statement; decide
theorem bitAbsolute : Statement .bitAbsolute := by unfold Statement; decide
theorem bcc : Statement .bcc := by unfold Statement; decide
theorem bcs : Statement .bcs := by unfold Statement; decide
theorem beq : Statement .beq := by unfold Statement; decide
theorem bne : Statement .bne := by unfold Statement; decide
theorem bmi : Statement .bmi := by unfold Statement; decide
theorem bpl : Statement .bpl := by unfold Statement; decide
theorem bvc : Statement .bvc := by unfold Statement; decide
theorem bvs : Statement .bvs := by unfold Statement; decide
theorem jmpAbsolute : Statement .jmpAbsolute := by unfold Statement; decide
theorem jmpIndirect : Statement .jmpIndirect := by unfold Statement; decide
theorem jsr : Statement .jsr := by unfold Statement; decide
theorem rts : Statement .rts := by unfold Statement; decide
theorem pha : Statement .pha := by unfold Statement; decide
theorem pla : Statement .pla := by unfold Statement; decide
theorem php : Statement .php := by unfold Statement; decide
theorem plp : Statement .plp := by unfold Statement; decide
theorem rti : Statement .rti := by unfold Statement; decide
theorem sec : Statement .sec := by unfold Statement; decide
theorem clc : Statement .clc := by unfold Statement; decide
theorem sed : Statement .sed := by unfold Statement; decide
theorem cld : Statement .cld := by unfold Statement; decide
theorem sei : Statement .sei := by unfold Statement; decide
theorem cli : Statement .cli := by unfold Statement; decide
theorem clv : Statement .clv := by unfold Statement; decide
theorem nop : Statement .nop := by unfold Statement; decide
theorem brk : Statement .brk := by unfold Statement; decide

end Sys2Proof.Laws.CatalogRow
end

