-- ==== Sys2Proof/Laws/Rules.lean ====
section
/-! SUPPORT. One lemma for each shared rule that says everything it does on this hardware once the resolver has given an
address, and one that says it fails exactly as the resolver does. -/

namespace Sys2Proof.Machine

open Sys2Proof

section memoryOperand
variable {m : AddressingMode} {len : Nat} {s : State} {ad : Word} {f : Fault}

theorem readMemoryOperand_error (h : hardware.resolve m s = .error f) : hardware.readMemoryOperand m s = .error f := by
  simp [Params.readMemoryOperand, h]

/-- R119 to R121; `set` leaves PC alone. -/
theorem loadInto_ok (set : State → Byte → State) (hset : ∀ s v, (set s v).pc = s.pc) (h : hardware.resolve m s = .ok ad) :
    hardware.loadInto set m len s =
      .ok (((set s (s.read ad)).setP (setZN s.p (s.read ad))).setPc (s.pc + BitVec.ofInt 16 ((len : Int) - 1))) := by
  simp [Params.loadInto, readMemoryOperand_eq h, hset]

theorem loadInto_error (set : State → Byte → State) (h : hardware.resolve m s = .error f) : hardware.loadInto set m len s = .error f := by
  simp [Params.loadInto, readMemoryOperand_error h]

/-- R122 to R124. -/
theorem storeFrom_ok (v : Byte) (h : hardware.resolve m s = .ok ad) :
    hardware.storeFrom v m len s = .ok ((s.write ad v).setPc (s.pc + BitVec.ofInt 16 ((len : Int) - 1))) := by
  simp [Params.storeFrom, h]

theorem storeFrom_error (v : Byte) (h : hardware.resolve m s = .error f) : hardware.storeFrom v m len s = .error f := by
  simp [Params.storeFrom, h]

/-- R132 to R136. -/
theorem accumulate_ok (op : Byte → Byte → Byte → Byte × Byte) (h : hardware.resolve m s = .ok ad) :
    hardware.accumulate op m len s =
      .ok (((s.setA (op s.p s.a (s.read ad)).1).setP (op s.p s.a (s.read ad)).2).setPc
        (s.pc + BitVec.ofInt 16 ((len : Int) - 1))) := by
  simp [Params.accumulate, readMemoryOperand_eq h]

theorem accumulate_error (op : Byte → Byte → Byte → Byte × Byte) (h : hardware.resolve m s = .error f) :
    hardware.accumulate op m len s = .error f := by
  simp [Params.accumulate, readMemoryOperand_error h]

/-- R143 to R145. -/
theorem compareWith_ok (reg : Byte) (h : hardware.resolve m s = .ok ad) :
    hardware.compareWith reg m len s =
      .ok ((s.setP (hardware.compareFlags s.p reg (s.read ad))).setPc (s.pc + BitVec.ofInt 16 ((len : Int) - 1))) := by
  simp [Params.compareWith, readMemoryOperand_eq h]

theorem compareWith_error (reg : Byte) (h : hardware.resolve m s = .error f) : hardware.compareWith reg m len s = .error f := by
  simp [Params.compareWith, readMemoryOperand_error h]

/-- R152. -/
theorem ruleBit_ok (h : hardware.resolve m s = .ok ad) :
    hardware.ruleBit m len s = .ok ((s.setP (bitFlags s.p s.a (s.read ad))).setPc (s.pc + BitVec.ofInt 16 ((len : Int) - 1))) := by
  simp [Params.ruleBit, readMemoryOperand_eq h]

theorem ruleBit_error (h : hardware.resolve m s = .error f) : hardware.ruleBit m len s = .error f := by
  simp [Params.ruleBit, readMemoryOperand_error h]

/-- R137 to R141, R146, R149, on memory. -/
theorem modifyAndAdvance_memory (op : Byte → Byte → Byte × Byte) (hm : m ≠ .accumulator) (h : hardware.resolve m s = .ok ad) :
    hardware.modifyAndAdvance op m len s =
      .ok (((s.setP (op s.p (s.read ad)).2).write ad (op s.p (s.read ad)).1).setPc
        (s.pc + BitVec.ofInt 16 ((len : Int) - 1))) := by
  simp [Params.modifyAndAdvance, readModifyWrite_memory op hm h]

/-- R137 to R141, on the accumulator. -/
theorem modifyAndAdvance_accumulator (op : Byte → Byte → Byte × Byte) :
    hardware.modifyAndAdvance op .accumulator 1 s = .ok ((s.setP (op s.p s.a).2).setA (op s.p s.a).1) := by
  simp [Params.modifyAndAdvance, readModifyWrite_accumulator, State.setA, State.setP,
    State.setPc]

theorem modifyAndAdvance_error (op : Byte → Byte → Byte × Byte) (hm : m ≠ .accumulator) (h : hardware.resolve m s = .error f) :
    hardware.modifyAndAdvance op m len s = .error f := by
  cases m <;> simp_all [Params.modifyAndAdvance, Params.readModifyWrite, Params.placeOf]

end memoryOperand

section oneByte
variable (s : State)

/-- R125 to R129. -/
theorem transferInto_eq (set : State → Byte → State) (v : Byte) :
    hardware.transferInto set v 1 s = .ok ((set s v).setP (setZN s.p v)) := advance_one _

/-- R147, R148, R150, R151. -/
theorem stepRegister_eq (set : State → Byte → State) (op : Byte → Byte → Byte × Byte) (v : Byte) :
    hardware.stepRegister set op v 1 s = .ok ((set s (op s.p v).1).setP (op s.p v).2) :=
  advance_one _

/-- R170 to R176. -/
theorem writeFlag_eq (f : Flag) (b : Bool) : hardware.writeFlag f b 1 s = .ok (s.setP (setFlag s.p f b)) :=
  advance_one _

/-- R153. -/
theorem branch_eq (cond : Bool) :
    hardware.branch cond 2 s = .ok (s.setPc (if cond then s.pc + sext16 (s.read s.pc) + 1#16 else s.pc + 1#16)) := by
  cases cond <;> simp [Params.branch]

end oneByte

section jumpsAndStack
variable (s : State)

/-- R162. -/
theorem ruleJmp_ok {m : AddressingMode} {s : State} {ad : Word} (h : hardware.resolve m s = .ok ad) :
    hardware.ruleJmp m s = .ok (s.setPc ad) := by
  simp [Params.ruleJmp, h]

theorem ruleJmp_error {m : AddressingMode} {s : State} {f : Fault} (h : hardware.resolve m s = .error f) :
    hardware.ruleJmp m s = .error f := by
  simp [Params.ruleJmp, h]

/-- R163: everything JSR can do; the target is read in the state after the pushes (D20). -/
theorem ruleJsr_eq :
    hardware.ruleJsr 3 s =
      if s.sp = 0x00#8 ∨ s.sp = 0x01#8 then .error (.stackOverflow 0x00#8 s.opAddr)
      else
        let t := ((s.write (stackAddr s.sp) (highByte (s.pc + 1#16))).write (stackAddr (s.sp - 1#8))
          (lowByte (s.pc + 1#16))).setSp (s.sp - 2#8)
        .ok (t.setPc (concat16 (t.read (s.pc + 1#16)) (t.read s.pc))) := by
  unfold Params.ruleJsr
  simp only [addrStep_eq, ok_bind, push16_eq]
  split <;> rfl

/-- R164: everything RTS can do. -/
theorem ruleRts_eq :
    hardware.ruleRts s =
      if s.sp = 0xFF#8 ∨ s.sp = 0xFE#8 then .error (.stackUnderflow 0xFF#8 s.opAddr)
      else .ok ((s.setSp (s.sp + 2#8)).setPc
        (concat16 (s.read (stackAddr (s.sp + 2#8))) (s.read (stackAddr (s.sp + 1#8))) + 1#16)) := by
  unfold Params.ruleRts
  rw [pop16_eq]
  split <;> rfl

/-- R165: everything PHA can do. -/
theorem rulePha_eq :
    hardware.rulePha 1 s =
      if s.sp = 0x00#8 then .error (.stackOverflow 0x00#8 s.opAddr)
      else .ok ((s.write (stackAddr s.sp) s.a).setSp (s.sp - 1#8)) := by
  unfold Params.rulePha
  rw [push_eq]
  split
  · rfl
  · exact advance_one _

/-- R166: everything PLA can do. -/
theorem rulePla_eq :
    hardware.rulePla 1 s =
      if s.sp = 0xFF#8 then .error (.stackUnderflow 0xFF#8 s.opAddr)
      else .ok (((s.setSp (s.sp + 1#8)).setA (s.read (stackAddr (s.sp + 1#8)))).setP
        (setZN s.p (s.read (stackAddr (s.sp + 1#8))))) := by
  unfold Params.rulePla
  rw [pop_eq]
  split
  · rfl
  · exact advance_one _

/-- R167: everything PHP can do. -/
theorem rulePhp_eq :
    hardware.rulePhp 1 s =
      if s.sp = 0x00#8 then .error (.stackOverflow 0x00#8 s.opAddr)
      else .ok ((s.write (stackAddr s.sp) (pushedStatus s.p)).setSp (s.sp - 1#8)) := by
  unfold Params.rulePhp
  rw [push_eq]
  split
  · rfl
  · exact advance_one _

/-- R168: everything PLP can do. -/
theorem rulePlp_eq :
    hardware.rulePlp 1 s =
      if s.sp = 0xFF#8 then .error (.stackUnderflow 0xFF#8 s.opAddr)
      else .ok ((s.setSp (s.sp + 1#8)).setP (pulledStatus (s.read (stackAddr (s.sp + 1#8))))) := by
  unfold Params.rulePlp
  rw [pop_eq]
  split
  · rfl
  · exact advance_one _

/-- R169: everything RTI can do. -/
theorem ruleRti_eq :
    ruleRti s =
      if s.sp = 0xFF#8 ∨ s.sp = 0xFE#8 ∨ s.sp = 0xFD#8 then .error (.stackUnderflow 0xFF#8 s.opAddr)
      else .ok (((s.setSp (s.sp + 3#8)).setP (pulledStatus (s.read (stackAddr (s.sp + 1#8))))).setPc
        (concat16 (s.read (stackAddr (s.sp + 3#8))) (s.read (stackAddr (s.sp + 2#8))))) := by
  have e1 : s.sp + 1#8 = 255#8 ↔ s.sp = 254#8 := by bv_omega
  have e2 : s.sp + 1#8 = 254#8 ↔ s.sp = 253#8 := by bv_omega
  have e3 : s.sp + 1#8 + 1#8 = s.sp + 2#8 := by bv_omega
  have e4 : s.sp + 1#8 + 2#8 = s.sp + 3#8 := by bv_omega
  unfold ruleRti
  rw [pop_eq]
  by_cases h0 : s.sp = 0xFF#8
  · simp [h0]
  · rw [if_neg h0]
    by_cases h1 : s.sp = 254#8 ∨ s.sp = 253#8
    · simp [pop16_eq, e1, e2, h0, h1]
    · simp [pop16_eq, e1, e2, e3, e4, h0, h1]
      rfl

/-- R178. -/
theorem ruleBrk_eq : hardware.ruleBrk 1 s = .ok (s.setStatus .idle) := by
  simp only [Params.ruleBrk, advance_one, ok_bind]

end jumpsAndStack

/-! ### The step -/

/-- R88, R89, R91: everything the fetch can do on this hardware. -/
theorem fetch_eq {α : Type} (lookup : Byte → Option α) (s : State) :
    hardware.fetch lookup s =
      match lookup (s.read s.pc) with
      | none => .error (.unimplementedOpcode (s.read s.pc) s.pc)
      | some d => .ok (d, s.setPc (s.pc + 1#16)) := rfl

/-- R88: everything a step over a table of opcodes can do on this hardware. -/
theorem stepBy_cases {α : Type} (lookup : Byte → Option α) (run : α → State → StepOutcome) (s : State) :
    (∃ f, s.status = .faulted f ∧ hardware.stepBy lookup run s = .refused (.afterFault f)) ∨
    ((∀ f, s.status ≠ .faulted f) ∧ lookup (s.read s.pc) = none ∧
      hardware.stepBy lookup run s = .fault (.unimplementedOpcode (s.read s.pc) s.pc)) ∨
    ((∀ f, s.status ≠ .faulted f) ∧ ∃ d, lookup (s.read s.pc) = some d ∧
      hardware.stepBy lookup run s = run d ((s.setStatus .running).setPc (s.pc + 1#16))) := by
  cases hs : s.status with
  | faulted f => exact .inl ⟨f, rfl, by simp [Params.stepBy, hs]⟩
  | idle | running =>
    refine .inr ?_
    have hr : s.enterRun.read s.enterRun.pc = s.read s.pc := rfl
    cases hc : lookup (s.read s.pc) with
    | none => exact .inl ⟨by simp, rfl, by simp only [Params.stepBy, hs, fetch_eq, hr, hc]; rfl⟩
    | some d => exact .inr ⟨by simp, d, rfl, by simp only [Params.stepBy, hs, fetch_eq, hr, hc]; rfl⟩

/-- R88: everything a step can do, by the run status and the byte at PC. -/
theorem step_cases (s : State) :
    (∃ f, s.status = .faulted f ∧ step s = .refused (.afterFault f)) ∨
    ((∀ f, s.status ≠ .faulted f) ∧ entryOf (s.read s.pc) = none ∧
      step s = .fault (.unimplementedOpcode (s.read s.pc) s.pc)) ∨
    ((∀ f, s.status ≠ .faulted f) ∧ ∃ e, entryOf (s.read s.pc) = some e ∧
      step s = exec e.instr ((s.setStatus .running).setPc (s.pc + 1#16))) :=
  stepBy_cases entryOf (fun e t => exec e.instr t) s

/-! ### The step as the parameterised core's at this hardware's parameters (00_scope.md R10, 30_encoding.md R73) -/

/-- A variant's arm is `Execute` of the descriptor its row stands for. -/
theorem execute_descriptor {e : CatalogEntry} (h : e.length = e.instr.length) (s : State) :
    hardware.execute e.descriptor s = exec e.instr s := by
  rw [exec_eq_rule, ← h]
  rfl

/-- The step is that of the core over its named parameters, at this hardware's values. -/
theorem step_eq_hardware_step (s : State) : step s = hardware.step s := by
  have hc : hardware.catalog (s.read s.pc) = (entryOf (s.read s.pc)).map CatalogEntry.descriptor := rfl
  rcases step_cases s with ⟨f, hs, e⟩ | ⟨hs, he, e⟩ | ⟨hs, d, he, e⟩ <;> rw [e] <;>
    rcases stepBy_cases hardware.catalog hardware.execute s with ⟨f', hs', e'⟩ | ⟨hs', he', e'⟩ | ⟨hs', d', he', e'⟩
  all_goals first
    | (exact absurd hs' (hs _))
    | (exact absurd hs (hs' _))
    | skip
  · rw [hs] at hs'
    cases hs'
    exact e'.symm
  · exact e'.symm
  · rw [hc, he] at he'
    cases he'
  · rw [hc, he] at he'
    cases he'
  · rw [hc, he] at he'
    cases he'
    exact (execute_descriptor (entryOf_length he) _).symm.trans e'.symm

/-- The engine the commands drive is the engine at this hardware's parameters. -/
theorem engine_eq_hardware_engine : engine = hardware.engine := by
  simp only [engine, Params.engine, Engine.mk.injEq]
  exact ⟨trivial, funext step_eq_hardware_step⟩

/-! ### The trace record -/

@[simp] theorem bytesAt_setPc (s : State) (pc addr : Word) (n : Nat) : (s.setPc pc).bytesAt addr n = s.bytesAt addr n := by
  induction n generalizing addr with
  | zero => rfl
  | succ n ih => simp [State.bytesAt, ih]

/-- 60_exceptions.md R194: on this hardware every operand byte has an address. -/
theorem operandBytes_eq (s : State) (n : Nat) : hardware.operandBytes s n = .ok (s.bytesAt s.pc n) := by
  cases n <;> rfl

/-- 40_execution_loop.md R92: everything a record can be on this hardware. -/
theorem traceRecord_eq (s : State) :
    hardware.traceRecord s =
      match catalog (s.read s.pc) with
      | none => .error (.unimplementedOpcode (s.read s.pc) s.pc)
      | some d => .ok ⟨d.mnemonic, s.read s.pc, s.bytesAt (s.pc + 1#16) (d.length - 1)⟩ := by
  have hc : hardware.catalog = catalog := rfl
  unfold Params.traceRecord
  rw [fetch_eq, hc]
  cases catalog (s.read s.pc) with
  | none => rfl
  | some d => simp [operandBytes_eq]

/-- R92: everything a step emits on this hardware. -/
theorem emittedRecord_eq (s : State) :
    hardware.emittedRecord s =
      match s.traceEnabled, catalog (s.read s.pc) with
      | true, some d => some ⟨d.mnemonic, s.read s.pc, s.bytesAt (s.pc + 1#16) (d.length - 1)⟩
      | _, _ => none := by
  unfold Params.emittedRecord
  rw [traceRecord_eq]
  cases s.traceEnabled <;> cases catalog (s.read s.pc) <;> rfl

/-- 40_execution_loop.md R88, R92: a fetch that raises emits no record, at any values of the parameters. -/
theorem emittedRecord_of_fetch_error {ps : Params} {s : State} {f : Fault} (h : ps.fetch ps.catalog s = .error f) :
    ps.emittedRecord s = none := by
  have : ps.traceRecord s = .error f := by unfold Params.traceRecord; rw [h]; rfl
  simp [Params.emittedRecord, this, Except.toOption]

end Sys2Proof.Machine
end

