-- ==== Sys2Proof/Tests/Slice0.lean ====
section
/-! SUPPORT. Tests with results from the spec (95_test_vectors.md and the examples of 30 to 70), and a witness for the
hypotheses of every statement that has some. -/

open Sys2Proof Sys2Proof.Machine

namespace Tests

/-- A core with an instruction's bytes at 0x8000 and PC there. -/
def at8000 (bytes : List Byte) (s : State) : State :=
  { s with pc := 0x8000#16, mem := s.mem.writeBytes 0x8000#16 bytes }

/-- One step of that core. -/
def stepAt8000 (bytes : List Byte) (s : State) : StepOutcome := step (at8000 bytes s)

/-- The outcome is a next state with a property. -/
def nextIs (q : State → Bool) : StepOutcome → Bool
  | .next t => q t
  | _ => false

/-! ### Well-formedness: one check, with too few and too many operand bytes -/

theorem test_wellFormed_refuses_missing_operand : WellFormed ⟨.ldaAbsolute, [0x00]⟩ = false := by decide
theorem test_wellFormed_refuses_extra_operand : WellFormed ⟨.tax, [0x00]⟩ = false := by decide
theorem test_wellFormed_accepts : WellFormed ⟨.ldaAbsolute, [0x00, 0xFF]⟩ = true := by decide

/-! ### Decoding: 30_encoding.md R83 and 95_test_vectors.md. That every variant's byte in R77 is its row in R76 is
Laws/PerInstr.lean. -/

theorem test_decode_lda_indirect_x : decode [0xA1, 0xFF] = .ok (⟨.ldaIndirectX, [0xFF]⟩, []) := by decide
theorem test_decode_ldx_zero_page_y : decode [0xB6, 0x80] = .ok (⟨.ldxZeroPageY, [0x80]⟩, []) := by decide
theorem test_decode_adc_immediate : decode [0x69, 0x01] = .ok (⟨.adcImmediate, [0x01]⟩, []) := by decide
theorem test_decode_asl_absolute_x : decode [0x1E, 0xFF, 0xFF] = .ok (⟨.aslAbsoluteX, [0xFF, 0xFF]⟩, []) := by decide
theorem test_decode_bit_absolute : decode [0x2C, 0x34, 0x12] = .ok (⟨.bitAbsolute, [0x34, 0x12]⟩, []) := by decide
theorem test_decode_bcc : decode [0x90, 0x04] = .ok (⟨.bcc, [0x04]⟩, []) := by decide
theorem test_decode_jmp_absolute : decode [0x4C, 0x34, 0x12] = .ok (⟨.jmpAbsolute, [0x34, 0x12]⟩, []) := by decide
theorem test_decode_php_then_plp : decode [0x08, 0x28] = .ok (⟨.php, []⟩, [0x28]) := by decide
theorem test_decode_sed : decode [0xF8] = .ok (⟨.sed, []⟩, []) := by decide
theorem test_decode_rejects_unknown : decode [0x80, 0x00] = .error (.unknownOpcode 0x80) := by decide
theorem test_decode_rejects_truncated : decode [0xAD, 0x00] = .error (.missingOperands 0xAD) := by decide
theorem test_decode_rejects_nothing : decode [] = .error .noBytes := by decide
theorem test_decodeTableWord : decodeTableWord 8 0xA9 = some .ldaImmediate := by decide
theorem test_decodeTableWord_unknown : decodeTableWord 8 0x02 = none := by decide

/-! ### Reset and the word the host places -/

/-- 95_test_vectors.md 2.14: `new(); run()` and, with the zero vector, `new(); reset(); run()`. -/
theorem test_reset_runs_brk :
    nextIs (fun t => t == { State.reset with pc := 0x0001#16 }) (step State.reset) = true := by decide

theorem test_withFetchWord_runs_the_word :
    nextIs (fun t => t.a == 0xC0#8 && t.pc == 0x0002#16) (step (State.reset.withFetchWord 16 0xC0A9)) = true := by decide

/-- 95_test_vectors.md 2.14: the bare opcode of a row; its operand bytes are zero. -/
theorem test_withFetchWord_pads_with_zeros :
    nextIs (fun t => t.pc == 0x0000#16) (step (State.reset.withFetchWord 8 0x4C)) = true := by decide

/-! ### One step per instruction -/

/-! 95_test_vectors.md section 2.1 -/

theorem test_lda_immediate_negative :
    nextIs (fun t => t.a == 0xC0#8 && t.p == 0x80#8 && t.pc == 0x8002#16)
      (stepAt8000 [0xA9, 0xC0] State.reset) = true := by decide

theorem test_lda_indirect_y_pointer_and_index_wrap :
    nextIs (fun t => t.a == 0x11#8 && t.pc == 0x8002#16)
      (stepAt8000 [0xB1, 0xFF]
        { State.reset with y := 0x10#8, mem := [(0x0000, 0xFF#8), (0x0008, 0x11#8), (0x00FF, 0xF8#8)] }) =
      true := by decide

theorem test_ldx_zero_page_y_wraps :
    nextIs (fun t => t.x == 0x01#8 && t.a == 0x00#8)
      (stepAt8000 [0xB6, 0x80] { State.reset with y := 0x90#8, mem := [(0x0010, 0x01#8)] }) = true := by decide

theorem test_ldy_absolute_x :
    nextIs (fun t => t.y == 0x80#8 && t.p == 0x80#8 && t.pc == 0x8003#16)
      (stepAt8000 [0xBC, 0x00, 0x02] { State.reset with x := 0x01#8, mem := [(0x0201, 0x80#8)] }) = true := by decide

theorem test_sta_absolute :
    nextIs (fun t => t.read 0x0200#16 == 0x42#8 && t.p == 0xC3#8 && t.pc == 0x8003#16)
      (stepAt8000 [0x8D, 0x00, 0x02] { State.reset with a := 0x42#8, p := 0xC3#8 }) = true := by decide

theorem test_sta_indirect_y :
    nextIs (fun t => t.read 0x0205#16 == 0x7E#8)
      (stepAt8000 [0x91, 0x10]
        { State.reset with a := 0x7E#8, y := 0x05#8, mem := [(0x0011, 0x02#8)] }) = true := by decide

theorem test_stx_zero_page_y_wraps :
    nextIs (fun t => t.read 0x000F#16 == 0x05#8)
      (stepAt8000 [0x96, 0x10] { State.reset with x := 0x05#8, y := 0xFF#8 }) = true := by decide

theorem test_sty_zero_page :
    nextIs (fun t => t.read 0x0020#16 == 0x09#8)
      (stepAt8000 [0x84, 0x20] { State.reset with y := 0x09#8 }) = true := by decide

theorem test_tax :
    nextIs (fun t => t.x == 0xC0#8 && t.p == 0x80#8)
      (stepAt8000 [0xAA] { State.reset with a := 0xC0#8 }) = true := by decide

theorem test_tay_zero :
    nextIs (fun t => t.y == 0x00#8 && t.p == 0x02#8)
      (stepAt8000 [0xA8] { State.reset with y := 0x33#8 }) = true := by decide

theorem test_txa :
    nextIs (fun t => t.a == 0x80#8 && t.p == 0x80#8)
      (stepAt8000 [0x8A] { State.reset with x := 0x80#8 }) = true := by decide

theorem test_tya :
    nextIs (fun t => t.a == 0x01#8 && t.p == 0x00#8)
      (stepAt8000 [0x98] { State.reset with y := 0x01#8 }) = true := by decide

theorem test_tsx :
    nextIs (fun t => t.x == 0xFD#8 && t.p == 0x80#8)
      (stepAt8000 [0xBA] State.reset) = true := by decide

theorem test_txs_sets_no_flag :
    nextIs (fun t => t.sp == 0x00#8 && t.p == 0x00#8)
      (stepAt8000 [0x9A] State.reset) = true := by decide

/-! 95_test_vectors.md section 2.2 -/

theorem test_adc_signed_overflow_and_carry :
    nextIs (fun t => t.a == 0x7F#8 && t.p == 0x41#8)
      (stepAt8000 [0x69, 0xFF] { State.reset with a := 0x80#8 }) = true := by decide

theorem test_adc_carry_in_overflows :
    nextIs (fun t => t.a == 0x80#8 && t.p == 0xC0#8)
      (stepAt8000 [0x69, 0x00] { State.reset with a := 0x7F#8, p := 0x01#8 }) = true := by decide

/-! 95_test_vectors.md section 2.3 -/

theorem test_sbc_borrow_in :
    nextIs (fun t => t.a == 0xFF#8 && t.p == 0x80#8)
      (stepAt8000 [0xE9, 0x00] { State.reset with p := 0x00#8 }) = true := by decide

theorem test_sbc_signed_overflow :
    nextIs (fun t => t.a == 0x60#8 && t.p == 0x41#8)
      (stepAt8000 [0xE9, 0x70] { State.reset with a := 0xD0#8, p := 0x01#8 }) = true := by decide

/-! 95_test_vectors.md section 2.4 -/

theorem test_and_keeps_carry_and_overflow :
    nextIs (fun t => t.a == 0x30#8 && t.p == 0x41#8)
      (stepAt8000 [0x29, 0x3C] { State.reset with a := 0xF0#8, p := 0x41#8 }) = true := by decide

theorem test_ora :
    nextIs (fun t => t.a == 0x8F#8 && t.p == 0x80#8)
      (stepAt8000 [0x09, 0x80] { State.reset with a := 0x0F#8 }) = true := by decide

theorem test_eor_zero :
    nextIs (fun t => t.a == 0x00#8 && t.p == 0x02#8)
      (stepAt8000 [0x49, 0x5A] { State.reset with a := 0x5A#8 }) = true := by decide

/-! 95_test_vectors.md section 2.5 -/

theorem test_asl_accumulator :
    nextIs (fun t => t.a == 0x02#8 && t.p == 0x01#8 && t.pc == 0x8001#16)
      (stepAt8000 [0x0A] { State.reset with a := 0x81#8, p := 0x01#8 }) = true := by decide

theorem test_asl_absolute_x_wraps :
    nextIs (fun t => t.read 0x0000#16 == 0x00#8 && t.p == 0x03#8)
      (stepAt8000 [0x1E, 0xFF, 0xFF] { State.reset with x := 0x01#8, mem := [(0x0000, 0x80#8)] }) = true := by decide

theorem test_lsr_zero_page :
    nextIs (fun t => t.read 0x0010#16 == 0x01#8 && t.p == 0x01#8 && t.a == 0x05#8 && t.pc == 0x8002#16)
      (stepAt8000 [0x46, 0x10] { State.reset with a := 0x05#8, mem := [(0x0010, 0x03#8)] }) = true := by decide

theorem test_rol_shifts_the_old_carry_in :
    nextIs (fun t => t.a == 0x03#8 && t.p == 0x01#8)
      (stepAt8000 [0x2A] { State.reset with a := 0x81#8, p := 0x01#8 }) = true := by decide

theorem test_ror_shifts_the_old_carry_in :
    nextIs (fun t => t.a == 0x80#8 && t.p == 0x80#8)
      (stepAt8000 [0x6A] { State.reset with a := 0x00#8, p := 0x01#8 }) = true := by decide

/-! 95_test_vectors.md section 2.6 -/

theorem test_cmp_literal_negative :
    nextIs (fun t => t.p == 0x80#8 && t.a == 0x01#8)
      (stepAt8000 [0xC9, 0xFF] { State.reset with a := 0x01#8 }) = true := by decide

theorem test_cmp_above :
    nextIs (fun t => t.p == 0x01#8)
      (stepAt8000 [0xC9, 0x01] { State.reset with a := 0xFF#8 }) = true := by decide

theorem test_cpx_equal :
    nextIs (fun t => t.p == 0x03#8)
      (stepAt8000 [0xE0, 0x05] { State.reset with x := 0x05#8 }) = true := by decide

theorem test_cpy_below :
    nextIs (fun t => t.p == 0x80#8)
      (stepAt8000 [0xC0, 0x80] { State.reset with y := 0x00#8 }) = true := by decide

/-! 95_test_vectors.md section 2.7 -/

theorem test_inc_zero_page_wraps_and_keeps_carry :
    nextIs (fun t => t.read 0x0010#16 == 0x00#8 && t.p == 0x03#8)
      (stepAt8000 [0xE6, 0x10] { State.reset with p := 0x01#8, mem := [(0x0010, 0xFF#8)] }) = true := by decide

theorem test_dec_absolute_x :
    nextIs (fun t => t.read 0x0202#16 == 0xFF#8 && t.p == 0x80#8)
      (stepAt8000 [0xDE, 0x00, 0x02] { State.reset with x := 0x02#8 }) = true := by decide

theorem test_inx_wraps :
    nextIs (fun t => t.x == 0x00#8 && t.p == 0x02#8)
      (stepAt8000 [0xE8] { State.reset with x := 0xFF#8 }) = true := by decide

theorem test_iny :
    nextIs (fun t => t.y == 0x80#8 && t.p == 0x80#8)
      (stepAt8000 [0xC8] { State.reset with y := 0x7F#8 }) = true := by decide

theorem test_dex_wraps :
    nextIs (fun t => t.x == 0xFF#8 && t.p == 0x80#8)
      (stepAt8000 [0xCA] { State.reset with x := 0x00#8 }) = true := by decide

theorem test_dey_wraps :
    nextIs (fun t => t.y == 0xFF#8 && t.p == 0x80#8)
      (stepAt8000 [0x88] { State.reset with y := 0x00#8 }) = true := by decide

/-! 95_test_vectors.md section 2.8 -/

theorem test_bit_flags_from_memory :
    nextIs (fun t => t.p == 0xC2#8 && t.a == 0x01#8)
      (stepAt8000 [0x24, 0x10] { State.reset with a := 0x01#8, mem := [(0x0010, 0xC0#8)] }) = true := by decide

theorem test_bit_absolute :
    nextIs (fun t => t.p == 0xC1#8 && t.pc == 0x8003#16)
      (stepAt8000 [0x2C, 0x34, 0x12]
        { State.reset with a := 0xC0#8, p := 0x01#8, mem := [(0x1234, 0xC0#8)] }) = true := by decide

/-! 95_test_vectors.md section 2.9 -/

theorem test_bcc_taken :
    nextIs (fun t => t.pc == 0x8006#16)
      (stepAt8000 [0x90, 0x04] { State.reset with p := 0x00#8 }) = true := by decide

theorem test_bcs_taken_backwards :
    nextIs (fun t => t.pc == 0x8000#16 && t.p == 0x01#8)
      (stepAt8000 [0xB0, 0xFE] { State.reset with p := 0x01#8 }) = true := by decide

theorem test_beq_furthest_forward :
    nextIs (fun t => t.pc == 0x8081#16)
      (stepAt8000 [0xF0, 0x7F] { State.reset with p := 0x02#8 }) = true := by decide

theorem test_bne_furthest_backwards :
    nextIs (fun t => t.pc == 0x7F82#16)
      (stepAt8000 [0xD0, 0x80] { State.reset with p := 0x00#8 }) = true := by decide

theorem test_bne_not_taken :
    nextIs (fun t => t.pc == 0x8002#16)
      (stepAt8000 [0xD0, 0x80] { State.reset with p := 0x02#8 }) = true := by decide

theorem test_bmi_taken :
    nextIs (fun t => t.pc == 0x8004#16)
      (stepAt8000 [0x30, 0x02] { State.reset with p := 0x80#8 }) = true := by decide

theorem test_bpl_not_taken :
    nextIs (fun t => t.pc == 0x8002#16)
      (stepAt8000 [0x10, 0x02] { State.reset with p := 0x80#8 }) = true := by decide

theorem test_bvc_taken :
    nextIs (fun t => t.pc == 0x7FFE#16)
      (stepAt8000 [0x50, 0xFC] { State.reset with p := 0x00#8 }) = true := by decide

theorem test_bvs_taken :
    nextIs (fun t => t.pc == 0x8002#16)
      (stepAt8000 [0x70, 0x00] { State.reset with p := 0x40#8 }) = true := by decide

/-! 95_test_vectors.md section 2.10 -/

theorem test_jmp_absolute :
    nextIs (fun t => t.pc == 0x1234#16)
      (stepAt8000 [0x4C, 0x34, 0x12] State.reset) = true := by decide

theorem test_jmp_indirect_has_no_page_wrap :
    nextIs (fun t => t.pc == 0x1234#16)
      (stepAt8000 [0x6C, 0xFF, 0x12]
        { State.reset with mem := [(0x1200, 0x56#8), (0x12FF, 0x34#8), (0x1300, 0x12#8)] }) = true := by decide

theorem test_jsr :
    nextIs (fun t => t.pc == 0x9000#16 && t.sp == 0xFB#8 && t.read 0x01FD#16 == 0x80#8 && t.read 0x01FC#16 == 0x02#8)
      (stepAt8000 [0x20, 0x00, 0x90] State.reset) = true := by decide

theorem test_rts :
    nextIs (fun t => t.pc == 0x8003#16 && t.sp == 0xFD#8)
      (stepAt8000 [0x60]
        { State.reset with sp := 0xFB#8, mem := [(0x01FC, 0x02#8), (0x01FD, 0x80#8)] }) = true := by decide

/-! 95_test_vectors.md section 2.11 -/

theorem test_pha :
    nextIs (fun t => t.read 0x01FD#16 == 0x42#8 && t.sp == 0xFC#8)
      (stepAt8000 [0x48] { State.reset with a := 0x42#8 }) = true := by decide

theorem test_pla :
    nextIs (fun t => t.a == 0x42#8 && t.sp == 0xFD#8 && t.p == 0x00#8)
      (stepAt8000 [0x68] { State.reset with sp := 0xFC#8, mem := [(0x01FD, 0x42#8)] }) = true := by decide

theorem test_php :
    nextIs (fun t => t.read 0x01FD#16 == 0xF3#8 && t.p == 0xC3#8)
      (stepAt8000 [0x08] { State.reset with p := 0xC3#8 }) = true := by decide

theorem test_plp_clears_b :
    nextIs (fun t => t.p == 0xEF#8 && t.sp == 0xFE#8)
      (stepAt8000 [0x28] { State.reset with mem := [(0x01FE, 0xFF#8)] }) = true := by decide

theorem test_rti_adds_nothing :
    nextIs (fun t => t.p == 0x20#8 && t.pc == 0x9000#16 && t.sp == 0xFD#8)
      (stepAt8000 [0x40]
        { State.reset with sp := 0xFA#8, mem := [(0x01FB, 0x30#8), (0x01FD, 0x90#8)] }) = true := by decide

/-! 95_test_vectors.md section 2.12 -/

theorem test_sec :
    nextIs (fun t => t.p == 0x01#8)
      (stepAt8000 [0x38] { State.reset with p := 0x00#8 }) = true := by decide

theorem test_clc :
    nextIs (fun t => t.p == 0x00#8)
      (stepAt8000 [0x18] { State.reset with p := 0x01#8 }) = true := by decide

theorem test_sed :
    nextIs (fun t => t.p == 0x08#8)
      (stepAt8000 [0xF8] { State.reset with p := 0x00#8 }) = true := by decide

theorem test_cld :
    nextIs (fun t => t.p == 0x00#8)
      (stepAt8000 [0xD8] { State.reset with p := 0x08#8 }) = true := by decide

theorem test_sei :
    nextIs (fun t => t.p == 0x04#8)
      (stepAt8000 [0x78] { State.reset with p := 0x00#8 }) = true := by decide

theorem test_cli :
    nextIs (fun t => t.p == 0x00#8)
      (stepAt8000 [0x58] { State.reset with p := 0x04#8 }) = true := by decide

theorem test_clv :
    nextIs (fun t => t.p == 0xBF#8)
      (stepAt8000 [0xB8] { State.reset with p := 0xFF#8 }) = true := by decide

theorem test_nop :
    nextIs (fun t => t.p == 0xFF#8 && t.pc == 0x8001#16 && t.status == .running)
      (stepAt8000 [0xEA] { State.reset with p := 0xFF#8 }) = true := by decide

theorem test_brk_halts :
    nextIs (fun t => t.p == 0xFF#8 && t.pc == 0x8001#16 && t.sp == 0xFD#8 && t.status == .idle)
      (stepAt8000 [0x00] { State.reset with p := 0xFF#8 }) = true := by decide

/-! 95_test_vectors.md sections 2.9 to 2.14: faults and wraps -/

theorem test_txs_then_push_overflows :
    stepAt8000 [0x48] { State.reset with sp := 0x00#8 } = .fault (.stackOverflow 0x00#8 0x8000#16) := rfl

theorem test_jsr_second_push_overflows :
    stepAt8000 [0x20, 0x00, 0x90] { State.reset with sp := 0x01#8 } =
      .fault (.stackOverflow 0x00#8 0x8000#16) := rfl

theorem test_rts_second_pop_underflows :
    stepAt8000 [0x60] { State.reset with sp := 0xFE#8 } = .fault (.stackUnderflow 0xFF#8 0x8000#16) := rfl

/-- P12: RTI right after reset. -/
theorem test_rti_third_pop_underflows :
    stepAt8000 [0x40] State.reset = .fault (.stackUnderflow 0xFF#8 0x8000#16) := rfl

theorem test_unknown_opcode_faults :
    stepAt8000 [0x02] State.reset = .fault (.unimplementedOpcode 0x02#8 0x8000#16) := rfl

/-- 95_test_vectors.md 2.13: a one-byte INX at 0xFFFF leaves PC = 0x0000. -/
theorem test_fetch_wraps :
    nextIs (fun t => t.pc == 0x0000#16 && t.x == 0x01#8)
      (step { State.reset with pc := 0xFFFF#16, mem := [(0xFFFF, 0xE8#8)] }) = true := by decide

/-! ### Host commands (95_test_vectors.md section 2.14) -/

/-- P1, the source's own program: `load_and_run([0xA9, 0xC0, 0xAA, 0xE8, 0x00])` gives X = 0xC1, with its four records. -/
theorem test_load_and_run_of_the_source_program :
    (match engine.command 5 (.live { State.powerOn with traceEnabled := true })
        (.loadAndRun [0xA9, 0xC0, 0xAA, 0xE8, 0x00]) with
      | .ok ⟨.live t, .halted, records⟩ =>
        t.x == 0xC1#8 && t.a == 0xC0#8 && t.pc == 0x8005#16 && t.p == 0x80#8 &&
        records == [⟨.lda, 0xA9, [0xC0]⟩, ⟨.tax, 0xAA, []⟩, ⟨.inx, 0xE8, []⟩, ⟨.brk, 0x00, []⟩]
      | _ => false) = true := by decide

theorem test_reset_command_keeps_y :
    let t := State.resetCommand { State.powerOn with a := 0x11#8, x := 0x22#8, y := 0x33#8, sp := 0x10#8, p := 0xFF#8,
                                                     mem := [(0xFFFD, 0x80#8)] }
    t.a = 0x00#8 ∧ t.x = 0x00#8 ∧ t.y = 0x33#8 ∧ t.sp = 0xFD#8 ∧ t.p = 0x00#8 ∧ t.pc = 0x8000#16 := by decide

/-! ### The named parameters at other values (00_scope.md R10) -/

/-- A catalog that pairs LDA with Accumulator at 0x02, and gives 0xEA three bytes. -/
def otherCatalog : Catalog := fun b =>
  if b = 0x02#8 then some ⟨.lda, 1, .accumulator, 2⟩
  else if b = 0xEA#8 then some ⟨.nop, 3, .noneAddressing, 2⟩
  else none

/-- P10 under `Nmos`: 0x01 against 0xFF leaves N = 0. -/
theorem test_nmos_compare :
    nextIs (fun t => t.p == 0x00#8)
      (Params.step { hardware with compareNegativeRule := .nmos }
        (at8000 [0xC9, 0xFF] { State.reset with a := 0x01#8 })) = true := by decide

/-- 95_test_vectors.md 2.9: BNE +5 at 0xFFFD under `Fault`. -/
theorem test_address_overflow :
    Params.step { hardware with addressWrapPolicy := .fault }
      { State.reset with pc := 0xFFFD#16, mem := [(0xFFFD, 0xD0#8), (0xFFFE, 0x05#8)] } =
        .fault (.addressOverflow 0xFFFD#16) := rfl

/-- 30_encoding.md R81, 40_execution_loop.md R106: the one check of a mode a rule does not take. -/
theorem test_catalog_with_an_unsupported_mode :
    Params.step { hardware with catalog := otherCatalog } (at8000 [0x02] State.reset) =
      .fault (.unsupportedAddressingMode .accumulator 0x8000#16) := rfl

/-- 30_encoding.md R74: the entry's length selects the PC advance. -/
theorem test_catalog_length_moves_pc :
    nextIs (fun t => t.pc == 0x8003#16)
      (Params.step { hardware with catalog := otherCatalog } (at8000 [0xEA] State.reset)) = true := by decide

/-- 30_encoding.md R73: a byte another catalog lacks is an unknown opcode there. -/
theorem test_catalog_without_lda :
    Params.step { hardware with catalog := otherCatalog } (at8000 [0xA9, 0xC0] State.reset) =
      .fault (.unimplementedOpcode 0xA9#8 0x8000#16) := rfl

theorem test_decodeWith :
    decodeWith otherCatalog [0xEA, 0x01, 0x02, 0x03] =
      .ok (⟨.nop, 3, .noneAddressing, 2⟩, [0x01, 0x02], [0x03]) := by decide

/-- The core under `AddressWrapPolicy` = `Fault`. -/
def faultPolicy : Params := { hardware with addressWrapPolicy := .fault }

/-- 40_execution_loop.md R88, R90, R92: INX at 0xFFFF under `Fault`: the fetch's increment raises before the decode, so a
traced run emits no record. -/
theorem test_no_record_when_the_fetch_overflows :
    faultPolicy.engine.run 1 { State.reset with pc := 0xFFFF#16, traceEnabled := true, mem := [(0xFFFF, 0xE8#8)] } =
      .ok ⟨.faulted (.addressOverflow 0xFFFF#16), .fault (.addressOverflow 0xFFFF#16), []⟩ := rfl

/-- The same run under `Wrap`, with the BRK that zeroed memory holds at 0x0000. -/
theorem test_record_when_the_fetch_wraps :
    hardware.engine.runRecords 2
        { State.reset with pc := 0xFFFF#16, traceEnabled := true, mem := [(0xFFFF, 0xE8#8)] } =
      [⟨.inx, 0xE8, []⟩, ⟨.brk, 0x00, []⟩] := by decide

/-- 95_test_vectors.md 2.9: the BNE at 0xFFFD decodes, so its record precedes its overflow. -/
theorem test_record_before_an_overflow_in_execution :
    faultPolicy.engine.runRecords 1
        { State.reset with pc := 0xFFFD#16, traceEnabled := true, mem := [(0xFFFD, 0xD0#8), (0xFFFE, 0x05#8)] } =
      [⟨.bne, 0xD0, [0x05]⟩] := by decide

/-! ### Witnesses: states and operands that meet the hypotheses of each statement, clause by clause, at boundary values -/

theorem witness_DecodeOfEncodeIsTheInstruction : WellFormed ⟨.jmpIndirect, [0xFF, 0x12]⟩ = true := by decide

theorem witness_DecodedBytesAreTheEncoding : decode [0xB1, 0x10, 0xEA] = .ok (⟨.ldaIndirectY, [0x10]⟩, [0xEA]) := by
  decide

theorem witness_RelativeOperandReachesItsTarget_furthest_back :
    let s := (at8000 [0xD0, 0x80] State.reset).setPc 0x8001#16
    let offset : Word := 0x7F82#16 - (s.pc + 1#16)
    s.read s.pc = lowByte offset ∧ -128 ≤ offset.toInt ∧ offset.toInt ≤ 127 := by decide

theorem witness_RelativeOperandReachesItsTarget_furthest_forward :
    let s := (at8000 [0xF0, 0x7F] State.reset).setPc 0x8001#16
    let offset : Word := 0x8081#16 - (s.pc + 1#16)
    s.read s.pc = lowByte offset ∧ -128 ≤ offset.toInt ∧ offset.toInt ≤ 127 := by decide

theorem witness_StepExecutesTheDecodedInstruction :
    let s := { State.reset with pc := 0xFFFF#16, mem := [(0x0000, 0xC0#8), (0xFFFF, 0xA9#8)] }
    decode (s.bytesAt s.pc 3) = .ok (⟨.ldaImmediate, [0xC0]⟩, [0x00]) ∧ ∀ f, s.status ≠ .faulted f :=
  ⟨by decide, fun _ h => nomatch h⟩

theorem witness_UnknownOpcodeStepFaults :
    let s := at8000 [0xFF] State.reset
    catalog (s.read s.pc) = none ∧ ∀ f, s.status ≠ .faulted f :=
  ⟨by decide, fun _ h => nomatch h⟩

theorem witness_StepKeepsTheInvariant :
    (at8000 [0x8D, 0x00, 0x02] State.reset).Inv ∧
      ∃ t, step (at8000 [0x8D, 0x00, 0x02] State.reset) = .next t := ⟨by decide, _, rfl⟩

theorem witness_StepHaltsExactlyAtBrk :
    (∃ t, stepAt8000 [0x00] State.reset = .next t) ∧ ∃ t, stepAt8000 [0xEA] State.reset = .next t :=
  ⟨⟨_, rfl⟩, _, rfl⟩

theorem witness_StepFaultsAreUnknownOpcodesAndStackLimits :
    (∃ f, stepAt8000 [0x02] State.reset = .fault f) ∧
      (∃ f, stepAt8000 [0x08] { State.reset with sp := 0x00#8 } = .fault f) ∧
      ∃ f, stepAt8000 [0x28] { State.reset with sp := 0xFF#8 } = .fault f :=
  ⟨⟨_, rfl⟩, ⟨_, rfl⟩, _, rfl⟩

/-- The overflowing fetch and the unknown opcode. -/
theorem witness_TracingNeverChangesTheStep :
    (∃ f, faultPolicy.fetch faultPolicy.catalog { State.reset with pc := 0xFFFF#16 } = .error f) ∧
      ∃ f, hardware.fetch hardware.catalog (at8000 [0x02] State.reset) = .error f := ⟨⟨_, rfl⟩, _, rfl⟩

theorem witness_TraceRecordHoldsTheInstructionBytes :
    let s := { at8000 [0x6C, 0xFF, 0x12] State.reset with traceEnabled := true }
    decode (s.bytesAt s.pc 3) = .ok (⟨.jmpIndirect, [0xFF, 0x12]⟩, []) ∧ s.traceEnabled = true := by decide

theorem witness_PopsUndoPushes :
    State.CanPop 2 State.reset ∧ State.CanPush 1 { State.reset with sp := 0x01#8 } ∧
      State.CanPush 2 { State.reset with sp := 0x02#8 } ∧
      State.CanPush [0x11#8, 0x22#8, 0x33#8].length { State.reset with sp := 0x03#8 } := by decide

theorem witness_PushU16LandsLittleEndian :
    State.CanPush 2 { State.reset with sp := 0x02#8 } ∧ ¬ State.CanPush 2 { State.reset with sp := 0x01#8 } ∧
      ¬ State.CanPush 2 { State.reset with sp := 0x00#8 } := by decide

theorem witness_SetZNTakesZeroAndBitSeven : Flag.carry ≠ .zero ∧ Flag.carry ≠ .negative := by decide

theorem witness_StackCapacityIsS :
    (∃ t, pushAll [0x11#8, 0x22#8] { State.reset with sp := 0x02#8 } = .ok t) ∧
      (∃ r, popAll 2 State.reset = .ok r) ∧
      State.sp { State.reset with sp := 0x01#8 } < [0x11#8, 0x22#8].length ∧ 0xFF - State.reset.sp.toNat < 3 :=
  ⟨⟨_, rfl⟩, ⟨_, rfl⟩, by decide, by decide⟩

theorem witness_StackAccessesStayWithinPageOne :
    (∃ t, State.push { State.reset with sp := 0x01#8 } 0x42#8 = .ok t) ∧
      (∃ t, State.push { State.reset with sp := 0xFF#8 } 0x42#8 = .ok t) ∧
      (∃ v t, State.pop { State.reset with sp := 0x00#8 } = .ok (v, t)) ∧
      ∃ v t, State.pop { State.reset with sp := 0xFE#8 } = .ok (v, t) :=
  ⟨⟨_, rfl⟩, ⟨_, rfl⟩, ⟨_, _, rfl⟩, _, _, rfl⟩

/-- The mnemonic hypotheses of the loads, stores, ADC, SBC, logic, shifts, INC, DEC and BIT. -/
theorem witness_mnemonic_hypotheses :
    [Instr.ldaIndirectX, .ldxZeroPageY, .ldyAbsoluteX, .staIndirectY, .stxZeroPageY, .styAbsolute, .adcIndirectY,
      .sbcAbsoluteY, .andAbsoluteX, .oraZeroPageX, .eorImmediate, .aslAccumulator, .lsrAbsoluteX, .rolZeroPage,
      .rorAbsolute, .incZeroPageX, .decAbsolute, .bitAbsolute].map Instr.mnemonic =
    [.lda, .ldx, .ldy, .sta, .stx, .sty, .adc, .sbc, .and, .ora, .eor, .asl, .lsr, .rol, .ror, .inc, .dec, .bit] := by
  decide

theorem witness_ComparesSetOrderFlags :
    (Instr.cmpIndirectX.mnemonic = .cmp ∧ State.reset.a = 0x00#8) ∧
      (Instr.cpxAbsolute.mnemonic = .cpx ∧ State.reset.x = 0x00#8) ∧
      (Instr.cpyZeroPage.mnemonic = .cpy ∧ State.reset.y = 0x00#8) := by decide

theorem witness_JsrPushesItsLastByteAddress :
    State.CanPush 2 { State.reset with sp := 0x02#8 } ∧ ¬ State.CanPush 2 { State.reset with sp := 0x01#8 } ∧
      ¬ State.CanPush 2 { State.reset with sp := 0x00#8 } := by decide

theorem witness_RtsReturnsPastThePoppedAddress :
    State.CanPop 2 { State.reset with sp := 0xFD#8 } ∧ ¬ State.CanPop 2 { State.reset with sp := 0xFE#8 } ∧
      ¬ State.CanPop 2 { State.reset with sp := 0xFF#8 } := by decide

theorem witness_PushesStoreAtTheStackPointer :
    State.CanPush 1 { State.reset with sp := 0x01#8 } ∧ State.sp { State.reset with sp := 0x00#8 } = 0x00#8 := by decide

theorem witness_PullsReadAboveTheStackPointer :
    State.CanPop 1 { State.reset with sp := 0xFE#8 } ∧ State.sp { State.reset with sp := 0xFF#8 } = 0xFF#8 := by decide

theorem witness_RtiRestoresStatusAndProgramCounter :
    State.CanPop 3 { State.reset with sp := 0xFC#8 } ∧ ¬ State.CanPop 3 { State.reset with sp := 0xFD#8 } ∧
      ¬ State.CanPop 3 { State.reset with sp := 0xFF#8 } := by decide

theorem witness_RegistersChangeOnlyByTheirWriters :
    nextIs (fun t => t.a != 0x00#8) (exec .aslAccumulator { State.reset with a := 0x01#8 }) &&
      nextIs (fun t => t.x != 0x00#8) (exec .inx State.reset) &&
      nextIs (fun t => t.y != 0x00#8) (exec .dey State.reset) &&
      nextIs (fun t => t.sp != 0xFD#8) (exec .rts State.reset) = true := by decide

theorem witness_FlagsChangeOnlyByTheirWriters :
    nextIs (fun t => getFlag t.p .carry) (exec .sec State.reset) &&
      nextIs (fun t => getFlag t.p .zero) (exec .tax State.reset) &&
      nextIs (fun t => getFlag t.p .negative) (exec .tsx State.reset) &&
      nextIs (fun t => getFlag t.p .interruptDisable) (exec .sei State.reset) &&
      nextIs (fun t => getFlag t.p .decimal) (exec .sed State.reset) &&
      nextIs (fun t => !getFlag t.p .overflow) (exec .clv { State.reset with p := 0x40#8 }) &&
      nextIs (fun t => getFlag t.p .one) (exec .plp { State.reset with mem := [(0x01FE, 0xFF#8)] }) &&
      nextIs (fun t => !getFlag t.p .brk) (exec .plp { State.reset with p := 0x10#8 }) = true := by decide

theorem witness_MemoryChangesOnlyWhereTheRulesStore :
    nextIs (fun t => t.read 0x0000#16 != 0x00#8) (exec .staZeroPage { State.reset with a := 0x01#8 }) &&
      nextIs (fun t => t.read 0x0101#16 != 0x00#8) (exec .pha { State.reset with a := 0x01#8, sp := 0x01#8 }) &&
      nextIs (fun t => t.read 0x01FF#16 != 0x00#8) (exec .php { State.reset with sp := 0xFF#8 }) &&
      nextIs (fun t => t.read 0x0102#16 != 0x00#8 && t.read 0x0101#16 != 0x00#8)
        (exec .jsr { State.reset with sp := 0x02#8, pc := 0x8001#16 }) = true := by decide

theorem witness_InertFlagsAreReadByPhpOnly :
    Instr.adcImmediate ≠ .php ∧ Flag.decimal ∈ [Flag.interruptDisable, .decimal, .brk, .one] ∧
      Flag.one ∈ [Flag.interruptDisable, .decimal, .brk, .one] := by decide

theorem witness_RtsReturnsAfterTheJsr : State.CanPush 2 { State.reset with sp := 0x02#8 } := by decide

theorem witness_PullsUndoPushes : State.CanPush 1 { State.reset with sp := 0x01#8 } := by decide

theorem witness_CanonicalMemoriesWithEqualBytesAreEqual :
    let m : Memory := Memory.write (Memory.write [(0x0000, 0x01#8)] 0xFFFF#16 0x02#8) 0x0000#16 0x03#8
    let n : Memory := [(0x0000, 0x03#8), (0xFFFF, 0x02#8)]
    m.wf = true ∧ n.wf = true ∧ ∀ a : Word, m.read a = n.read a := ⟨by decide, by decide, fun _ => rfl⟩

theorem witness_LoadInstallsTheImage : (List.replicate 0x8000 0xEA#8).length ≤ 0x8000 :=
  Nat.le_of_eq List.length_replicate

theorem witness_OversizedLoadChangesNothing :
    0x8000 < (List.replicate 0x8001 0xEA#8).length ∧ State.reset.status = .idle :=
  ⟨Nat.lt_of_lt_of_eq (by decide) List.length_replicate.symm, rfl⟩

theorem witness_LoadAndRunStartsAtTheImage :
    (List.replicate 0x8000 0xEA#8).length ≤ 0x8000 ∧ State.powerOn.status = .idle :=
  ⟨Nat.le_of_eq List.length_replicate, rfl⟩

theorem witness_MoreFuelNeverChangesAnEndedRun :
    (∃ t, engine.runLoop 1 State.reset = .halted t) ∧ ∃ f, engine.runLoop 1 (at8000 [0x02] State.reset) = .fault f :=
  ⟨⟨_, rfl⟩, _, rfl⟩

theorem witness_CommandsWaitForRunAndEndAtFaults :
    (State.setStatus State.reset .running).status = .running ∧ Command.reset ≠ .new := by decide

end Tests
end

/-! PROOFS. Encoding (30_encoding.md): what a variant's row of the catalog says of `catalog` and of `decode`. -/

namespace Sys2Proof.Machine

open Sys2Proof

section catalogRow
variable {i : Instr}

/-- 30_encoding.md R76, R77: the row found for a variant's own opcode byte. -/
theorem entryOf_opcode (row : Laws.CatalogRow.Statement i) :
    ∃ cycles, entryOf i.opcode = some ⟨i, i.length, cycles⟩ := by
  obtain ⟨found, -⟩ := row
  obtain ⟨⟨j, n, cycles⟩, hentry, heq⟩ := Option.map_eq_some_iff.1 found
  obtain ⟨hj, hn⟩ : j = i ∧ n = i.length := Prod.mk.inj heq
  exact ⟨cycles, by rw [hentry, hj, hn]⟩

/-- 30_encoding.md R72, R76: the mnemonic and the mode the catalog gives for the byte that is a variant's opcode. -/
theorem catalog_of_opcode (row : Laws.CatalogRow.Statement i) {op : Byte} (hop : i.opcode = op) :
    (catalog op).map (fun d => (d.mnemonic, d.mode)) = some (i.mnemonic, i.mode) := by
  obtain ⟨cycles, hentry⟩ := entryOf_opcode row
  simp [← hop, hentry, CatalogEntry.descriptor]

theorem catalog_mnemonic_of_opcode (row : Laws.CatalogRow.Statement i) {op : Byte} (hop : i.opcode = op) :
    (catalog op).map (·.mnemonic) = some i.mnemonic := by
  simpa using congrArg (Option.map Prod.fst) (catalog_of_opcode row hop)

/-- 30_encoding.md R65, R67: a variant's opcode byte with its operand bytes decodes to the variant, and the bytes after
them are left over. -/
theorem decode_encode_append (row : Laws.CatalogRow.Statement i) {operands : List Byte}
    (wf : WellFormed ⟨i, operands⟩ = true) (rest : List Byte) :
    decode (encode ⟨i, operands⟩ ++ rest) = .ok (⟨i, operands⟩, rest) := by
  obtain ⟨cycles, hentry⟩ := entryOf_opcode row
  have hlength : i.length - 1 = operands.length := by
    have : operands.length + 1 = i.length := eq_of_beq wf
    omega
  simp [encode, decode_cons, hentry, hlength]

end catalogRow

/-- Settles O1 (R75): each byte the source shows is the opcode of its variant, so the variant's row of the catalog answers
for it, and the two encoded examples are encodings of well-formed instructions. -/
theorem sourceProgramBytesDecode : Obligations.SourceProgramBytesDecode := by
  refine ⟨?lda, ?tax, ?inx, ?brk, ?adc, ?decodeLda, ?decodeAdc⟩
  case lda => exact catalog_of_opcode Laws.CatalogRow.ldaImmediate rfl
  case tax => exact catalog_mnemonic_of_opcode Laws.CatalogRow.tax rfl
  case inx => exact catalog_mnemonic_of_opcode Laws.CatalogRow.inx rfl
  case brk => exact catalog_mnemonic_of_opcode Laws.CatalogRow.brk rfl
  case adc => exact catalog_of_opcode Laws.CatalogRow.adcImmediate rfl
  case decodeLda => exact decode_encode_append Laws.CatalogRow.ldaImmediate (operands := [0xC0]) rfl []
  case decodeAdc => exact decode_encode_append Laws.CatalogRow.adcImmediate (operands := [0x01]) rfl []

end Sys2Proof.Machine

/-! PROOFS. The trace flag (40_execution_loop.md R92): no operation of an instruction reads or writes it, at any values of
the named parameters. -/

namespace Sys2Proof.Machine

open Sys2Proof

section bind
variable {ε α α' β β' : Type} {x : Except ε α} {f : α → Except ε β} {g : β → β'}

/-- Two computations that begin alike and go on alike up to `g` are alike up to `g`. -/
theorem bind_eq_map_bind {y : Except ε α} {f' : α → Except ε β'} (hx : y = x) (hf : ∀ a, f' a = (f a).map g) :
    (y >>= f') = (x >>= f).map g := by
  subst hx
  cases y with
  | error e => rfl
  | ok a => exact hf a

/-- The same where the first results are alike up to `k`. -/
theorem bind_eq_map_bind_of_map {y : Except ε α'} {f' : α' → Except ε β'} {k : α → α'} (hx : y = x.map k)
    (hf : ∀ a, f' (k a) = (f a).map g) : (y >>= f') = (x >>= f).map g := by
  subst hx
  cases x with
  | error e => rfl
  | ok a => exact hf a

end bind

section traceFlag
variable {ps : Params} {m : AddressingMode} {len : Nat} {s : State} {b : Bool}

/-! What reads the machine does not see the flag -/

theorem resolve_setTrace : ps.resolve m (s.setTrace b) = ps.resolve m s := by
  cases m <;> rfl

theorem readMemoryOperand_setTrace : ps.readMemoryOperand m (s.setTrace b) = ps.readMemoryOperand m s := by
  unfold Params.readMemoryOperand
  rw [resolve_setTrace]
  rfl

theorem placeOf_setTrace : ps.placeOf m (s.setTrace b) = ps.placeOf m s := by
  cases m <;> rfl

/-! What changes the machine lets the flag through -/

/-- R93; every rule that advances ends in this, and `h` says that its updates before the advance let the flag through. -/
theorem advance_setTrace {t : State} (h : t = s.setTrace b) :
    ps.advance len t = (ps.advance len s).map (·.setTrace b) := by
  subst h
  exact bind_eq_map_bind rfl fun _ => rfl

theorem push_setTrace (v : Byte) : (s.setTrace b).push v = (s.push v).map (·.setTrace b) := by
  rw [push_eq, push_eq, setTrace_sp]
  split <;> rfl

theorem push16_setTrace (v : Word) : (s.setTrace b).push16 v = (s.push16 v).map (·.setTrace b) := by
  rw [push16_eq, push16_eq, setTrace_sp]
  split <;> rfl

theorem pop_setTrace : (s.setTrace b).pop = s.pop.map (Prod.map id (·.setTrace b)) := by
  rw [pop_eq, pop_eq, setTrace_sp]
  split <;> rfl

theorem pop16_setTrace : (s.setTrace b).pop16 = s.pop16.map (Prod.map id (·.setTrace b)) := by
  rw [pop16_eq, pop16_eq, setTrace_sp]
  split <;> rfl

/-! The rules of 41 to 48 -/

theorem loadInto_setTrace (set : State → Byte → State) (hset : ∀ s v, set (State.setTrace s b) v = (set s v).setTrace b) :
    ps.loadInto set m len (s.setTrace b) = (ps.loadInto set m len s).map (·.setTrace b) :=
  bind_eq_map_bind readMemoryOperand_setTrace fun _ => advance_setTrace (by rw [hset]; rfl)

theorem storeFrom_setTrace (v : Byte) :
    ps.storeFrom v m len (s.setTrace b) = (ps.storeFrom v m len s).map (·.setTrace b) :=
  bind_eq_map_bind resolve_setTrace fun _ => advance_setTrace rfl

theorem accumulate_setTrace (op : Byte → Byte → Byte → Byte × Byte) :
    ps.accumulate op m len (s.setTrace b) = (ps.accumulate op m len s).map (·.setTrace b) :=
  bind_eq_map_bind readMemoryOperand_setTrace fun _ => advance_setTrace rfl

theorem compareWith_setTrace (reg : Byte) :
    ps.compareWith reg m len (s.setTrace b) = (ps.compareWith reg m len s).map (·.setTrace b) :=
  bind_eq_map_bind readMemoryOperand_setTrace fun _ => advance_setTrace rfl

theorem ruleBit_setTrace : ps.ruleBit m len (s.setTrace b) = (ps.ruleBit m len s).map (·.setTrace b) :=
  bind_eq_map_bind readMemoryOperand_setTrace fun _ => advance_setTrace rfl

theorem readModifyWrite_setTrace (op : Byte → Byte → Byte × Byte) :
    ps.readModifyWrite m op (s.setTrace b) = (ps.readModifyWrite m op s).map (·.setTrace b) :=
  bind_eq_map_bind placeOf_setTrace fun place => by cases place <;> rfl

theorem modifyAndAdvance_setTrace (op : Byte → Byte → Byte × Byte) :
    ps.modifyAndAdvance op m len (s.setTrace b) = (ps.modifyAndAdvance op m len s).map (·.setTrace b) :=
  bind_eq_map_bind_of_map (readModifyWrite_setTrace op) fun _ => advance_setTrace rfl

theorem ruleJmp_setTrace : ps.ruleJmp m (s.setTrace b) = (ps.ruleJmp m s).map (·.setTrace b) :=
  bind_eq_map_bind resolve_setTrace fun _ => rfl

theorem branch_setTrace (cond : Bool) :
    ps.branch cond len (s.setTrace b) = (ps.branch cond len s).map (·.setTrace b) := by
  cases cond with
  | false => exact advance_setTrace rfl
  | true => exact ruleJmp_setTrace (m := .relative)

theorem ruleBrk_setTrace : ps.ruleBrk len (s.setTrace b) = (ps.ruleBrk len s).map (·.setTrace b) :=
  bind_eq_map_bind_of_map (advance_setTrace rfl) fun _ => rfl

theorem ruleJsr_setTrace : ps.ruleJsr len (s.setTrace b) = (ps.ruleJsr len s).map (·.setTrace b) :=
  bind_eq_map_bind rfl fun ret => bind_eq_map_bind_of_map (push16_setTrace ret) fun _ => ruleJmp_setTrace

theorem ruleRts_setTrace : ps.ruleRts (s.setTrace b) = (ps.ruleRts s).map (·.setTrace b) :=
  bind_eq_map_bind_of_map pop16_setTrace fun _ => bind_eq_map_bind rfl fun _ => rfl

theorem rulePha_setTrace : ps.rulePha len (s.setTrace b) = (ps.rulePha len s).map (·.setTrace b) :=
  bind_eq_map_bind_of_map (push_setTrace s.a) fun _ => advance_setTrace rfl

theorem rulePhp_setTrace : ps.rulePhp len (s.setTrace b) = (ps.rulePhp len s).map (·.setTrace b) :=
  bind_eq_map_bind_of_map (push_setTrace (pushedStatus s.p)) fun _ => advance_setTrace rfl

theorem rulePla_setTrace : ps.rulePla len (s.setTrace b) = (ps.rulePla len s).map (·.setTrace b) :=
  bind_eq_map_bind_of_map pop_setTrace fun _ => advance_setTrace rfl

theorem rulePlp_setTrace : ps.rulePlp len (s.setTrace b) = (ps.rulePlp len s).map (·.setTrace b) :=
  bind_eq_map_bind_of_map pop_setTrace fun _ => advance_setTrace rfl

theorem ruleRti_setTrace : ruleRti (s.setTrace b) = (ruleRti s).map (·.setTrace b) := by
  rw [ruleRti_eq, ruleRti_eq, setTrace_sp]
  split <;> rfl

/-- 40_execution_loop.md R92: whatever instruction executes, it lets the trace flag through and does the same otherwise. -/
theorem rule_setTrace (mn : Mnemonic) :
    ps.rule mn m len (s.setTrace b) = (ps.rule mn m len s).map (·.setTrace b) := by
  cases mn
  case lda | ldx | ldy => exact loadInto_setTrace _ fun _ _ => rfl
  case sta | stx | sty => exact storeFrom_setTrace _
  case adc | sbc | and | ora | eor => exact accumulate_setTrace _
  case asl | lsr | rol | ror | inc | dec => exact modifyAndAdvance_setTrace _
  case cmp | cpx | cpy => exact compareWith_setTrace _
  case bit => exact ruleBit_setTrace
  case bcc | bcs | beq | bne | bmi | bpl | bvc | bvs => exact branch_setTrace _
  case jmp => exact ruleJmp_setTrace
  case jsr => exact ruleJsr_setTrace
  case rts => exact ruleRts_setTrace
  case pha => exact rulePha_setTrace
  case php => exact rulePhp_setTrace
  case pla => exact rulePla_setTrace
  case plp => exact rulePlp_setTrace
  case rti => exact ruleRti_setTrace
  case brk => exact ruleBrk_setTrace
  case tax | tay | txa | tya | tsx | txs | inx | iny | dex | dey | sec | clc | sed | cld | sei | cli | clv | nop =>
    exact advance_setTrace rfl

/-! The step -/

theorem finish_map (r : Except Fault State) (f : State → State) : finish (r.map f) = mapNext f (finish r) := by
  cases r <;> rfl

theorem exec_setTrace (i : Instr) : exec i (s.setTrace b) = mapNext (·.setTrace b) (exec i s) := by
  rw [exec_eq_rule, exec_eq_rule, rule_setTrace, finish_map]

theorem fetch_setTrace {α : Type} (lookup : Byte → Option α) :
    ps.fetch lookup (s.setTrace b) = (ps.fetch lookup s).map (Prod.map id (·.setTrace b)) :=
  bind_eq_map_bind rfl fun pc => by
    rw [setTrace_pc, setTrace_read]
    cases lookup (s.read s.pc) <;> rfl

/-- R88: a step over any table of opcodes lets the flag through where what it runs for an entry does. -/
theorem stepBy_setTrace {α : Type} (lookup : Byte → Option α) (run : α → State → StepOutcome)
    (hrun : ∀ d t, run d (State.setTrace t b) = mapNext (·.setTrace b) (run d t)) :
    ps.stepBy lookup run (s.setTrace b) = mapNext (·.setTrace b) (ps.stepBy lookup run s) := by
  have henter : (s.setTrace b).enterRun = s.enterRun.setTrace b := rfl
  unfold Params.stepBy
  rw [setTrace_status, henter, fetch_setTrace]
  cases s.status with
  | faulted f => rfl
  | idle | running =>
    cases ps.fetch lookup s.enterRun with
    | error f => rfl
    | ok r => exact hrun r.1 r.2

theorem step_setTrace : step (s.setTrace b) = mapNext (·.setTrace b) (step s) :=
  stepBy_setTrace entryOf _ fun e _ => exec_setTrace e.instr

end traceFlag

/-- 40_execution_loop.md R92: a record is emitted exactly where tracing is enabled and the opcode decodes. -/
theorem emittedRecord_isSome (s : State) :
    (hardware.emittedRecord s).isSome = (s.traceEnabled && (catalog (s.read s.pc)).isSome) := by
  rw [emittedRecord_eq]
  cases s.traceEnabled <;> cases catalog (s.read s.pc) <;> rfl

/-- Settles O14 (R92): whether a record is emitted is read off the record's equation, every rule and so the step lets the
flag through, and a fetch that raises leaves no record to emit. -/
theorem tracingNeverChangesTheStep : Obligations.TracingNeverChangesTheStep :=
  fun s _ => ⟨emittedRecord_isSome s, step_setTrace, fun _ _ => emittedRecord_of_fetch_error⟩

end Sys2Proof.Machine

/-! PROOFS. The unknown opcode and the flags of a result (40_execution_loop.md R91, R113). -/

namespace Sys2Proof.Machine

open Sys2Proof

/-- Settles O8 (R91): of the three things a step can do, only the fault is left where the byte at PC has no entry and the
core is not faulted. -/
theorem unknownOpcodeStepFaults : Obligations.UnknownOpcodeStepFaults := by
  intro s hunknown hlive
  constructor
  · rcases step_cases s with ⟨f, hfaulted, -⟩ | ⟨-, -, hfault⟩ | ⟨-, e, hentry, -⟩
    · exact absurd hfaulted (hlive f)
    · exact hfault
    · simp [hentry] at hunknown
  · rw [emittedRecord_eq, hunknown]
    cases s.traceEnabled <;> rfl

/-- Settles O19 (R113): the flag reads of SetZN, with the zero test and bit 7 as numbers. -/
theorem setZNTakesZeroAndBitSeven : Obligations.SetZNTakesZeroAndBitSeven := by
  intro p v
  refine ⟨?zero, ?negative, ?others⟩
  case zero =>
    have hzero : v = 0x00#8 ↔ v.toNat = 0 := by bv_omega
    simp [hzero, beq_eq_decide]
  case negative =>
    simpa [BitVec.msb_eq_getLsbD_last] using BitVec.msb_eq_decide v
  case others =>
    intro f hzero hnegative
    simp [hzero, hnegative]

end Sys2Proof.Machine

/-! PROOFS. The one-byte addressing modes as numbers (40_execution_loop.md R97, R98, R103, R104). -/

namespace Sys2Proof.Machine

open Sys2Proof

/-- 00_scope.md R13: a zero-page address is the number of its byte. -/
theorem zext16_eq_ofNat (b : Byte) : zext16 b = BitVec.ofNat 16 b.toNat :=
  BitVec.eq_of_toNat_eq (by rw [toNat_zext16, BitVec.toNat_ofNat]; omega)

/-- R103, R104: a zero-page pointer's two bytes, the second taken at the pointer plus 1 modulo 256. -/
theorem toNat_zeroPagePointer (s : State) (ptr : Byte) :
    (s.zeroPagePointer ptr).toNat =
      (s.read (BitVec.ofNat 16 ((ptr.toNat + 1) % 256))).toNat * 256 + (s.read (BitVec.ofNat 16 ptr.toNat)).toNat := by
  rw [State.zeroPagePointer, toNat_concat16, zext16_eq_ofNat, zext16_eq_ofNat, BitVec.toNat_add]
  rfl

/-- Settles O18 (R97, R98, R103, R104): each resolver arm read as a number. -/
theorem oneByteOperandsResolveWithByteWraparound : Obligations.OneByteOperandsResolveWithByteWraparound := by
  intro s
  refine ⟨resolve_immediate s, ⟨_, resolve_zeroPage s, toNat_zext16 _⟩, ⟨_, resolve_zeroPageX s, ?x⟩,
    ⟨_, resolve_zeroPageY s, ?y⟩, ⟨_, resolve_indirectX s, ?indirectX⟩, ⟨_, resolve_indirectY s, ?indirectY⟩⟩
  case x | y => rw [toNat_zext16, BitVec.toNat_add]
  case indirectX => rw [toNat_zeroPagePointer, BitVec.toNat_add, Nat.mod_add_mod]
  case indirectY =>
    have hptr : (s.read s.pc).toNat % 256 = (s.read s.pc).toNat := Nat.mod_eq_of_lt (s.read s.pc).isLt
    rw [BitVec.toNat_add, toNat_zeroPagePointer, toNat_zext16]
    simp only [hptr]

end Sys2Proof.Machine

/-! PROOFS. The stack primitives (40_execution_loop.md R108 to R112). -/

namespace Sys2Proof.Machine

open Sys2Proof

section stack
variable {s : State}

/-! R112: the bounds on S as the values the primitives test -/

theorem canPush_one : s.CanPush 1 ↔ s.sp ≠ 0x00#8 := by
  simp only [State.CanPush]
  bv_omega

theorem canPush_two : s.CanPush 2 ↔ ¬(s.sp = 0x00#8 ∨ s.sp = 0x01#8) := by
  simp only [State.CanPush]
  bv_omega

theorem canPop_one : s.CanPop 1 ↔ s.sp ≠ 0xFF#8 := by
  simp only [State.CanPop]
  bv_omega

theorem canPop_two : s.CanPop 2 ↔ ¬(s.sp = 0xFF#8 ∨ s.sp = 0xFE#8) := by
  simp only [State.CanPop]
  bv_omega

/-! What the primitives do where they succeed -/

theorem push_ok (v : Byte) (h : s.CanPush 1) : s.push v = .ok ((s.write (stackAddr s.sp) v).setSp (s.sp - 1#8)) := by
  rw [push_eq, if_neg (canPush_one.1 h)]

theorem pop_ok (h : s.CanPop 1) : s.pop = .ok (s.read (stackAddr (s.sp + 1#8)), s.setSp (s.sp + 1#8)) := by
  rw [pop_eq, if_neg (canPop_one.1 h)]

theorem push16_ok (v : Word) (h : s.CanPush 2) :
    s.push16 v =
      .ok (((s.write (stackAddr s.sp) (highByte v)).write (stackAddr (s.sp - 1#8)) (lowByte v)).setSp (s.sp - 2#8)) := by
  rw [push16_eq, if_neg (canPush_two.1 h)]

theorem pop16_ok (h : s.CanPop 2) :
    s.pop16 =
      .ok (concat16 (s.read (stackAddr (s.sp + 2#8))) (s.read (stackAddr (s.sp + 1#8))), s.setSp (s.sp + 2#8)) := by
  rw [pop16_eq, if_neg (canPop_two.1 h)]

/-- R108, D9: the fault of a 16-bit push. -/
theorem push16_overflow (v : Word) (h : ¬ s.CanPush 2) : s.push16 v = .error (.stackOverflow 0x00#8 s.opAddr) := by
  rw [push16_eq, if_pos (not_not.1 (mt canPush_two.2 h))]

/-- 20_memory.md R55: within the stack page, the address below a byte is that of S less one. -/
theorem stackAddr_sub_one {sp : Byte} (h : sp ≠ 0x00#8) : stackAddr sp - 1#16 = stackAddr (sp - 1#8) := by
  apply BitVec.eq_of_toNat_eq
  have := toNat_stackAddr sp
  have := toNat_stackAddr (sp - 1#8)
  bv_omega

end stack

/-- Settles O20 (R108, R110, D9): where both pushes succeed, the two bytes stand at neighbouring addresses of the stack page,
so the word read at the lower one is the word pushed; otherwise the push that finds S = 0x00 faults. -/
theorem pushU16LandsLittleEndian : Obligations.PushU16LandsLittleEndian := by
  intro s v
  refine ⟨fun hcan => ?lands, fun hcan => push16_overflow v hcan⟩
  case lands =>
    have hsp : s.sp ≠ 0x00#8 := fun h => canPush_two.1 hcan (.inl h)
    have hne : s.sp - 1#8 ≠ s.sp := by bv_omega
    have hlow : 0x0100#16 + zext16 s.sp - 1#16 = stackAddr (s.sp - 1#8) := stackAddr_sub_one hsp
    have hnext : stackAddr (s.sp - 1#8) + 1#16 = stackAddr s.sp := by
      rw [← stackAddr_sub_one hsp]
      exact BitVec.sub_add_cancel _ _
    have hhigh : 0x0100#16 + zext16 s.sp = stackAddr s.sp := rfl
    rw [hlow, hhigh]
    refine ⟨_, push16_ok v hcan, ?high, ?low, ?word, rfl, rfl, ?frame⟩
    case high => simp [hne]
    case low => simp
    case word => simp [hnext, hne]
    case frame =>
      refine ⟨?regs, fun _ _ => rfl, ?bytes, rfl, rfl⟩
      case regs =>
        intro r hr
        cases r
        case s => simp at hr
        case a | x | y => rfl
      case bytes =>
        intro a ha
        obtain ⟨hne_high, hne_low⟩ : a ≠ stackAddr s.sp ∧ a ≠ stackAddr (s.sp - 1#8) := by simpa using ha
        simp [hne_high.symm, hne_low.symm]

@[simp] theorem setSp_setSp (s : State) (v w : Byte) : (s.setSp v).setSp w = s.setSp w := rfl

/-- R111: a pop undoes a push. -/
theorem pop_after_push {s : State} (v : Byte) (h : s.CanPush 1) :
    ∃ t, s.push v = .ok t ∧ t.pop = .ok (v, t.setSp s.sp) := by
  have hsp : s.sp ≠ 0x00#8 := canPush_one.1 h
  refine ⟨_, push_ok v h, ?_⟩
  rw [pop_ok (canPop_one.2 (by simp only [setSp_sp]; bv_omega))]
  simp

/-- R111: a 16-bit pop undoes a 16-bit push. -/
theorem pop16_after_push16 {s : State} (v : Word) (h : s.CanPush 2) :
    ∃ t, s.push16 v = .ok t ∧ t.pop16 = .ok (v, t.setSp s.sp) := by
  have hsp := canPush_two.1 h
  have hlow : s.sp - 2#8 + 1#8 = s.sp - 1#8 := by bv_omega
  have hne : s.sp - 1#8 ≠ s.sp := by bv_omega
  refine ⟨_, push16_ok v h, ?_⟩
  rw [pop16_ok (canPop_two.2 (by simp only [setSp_sp]; bv_omega))]
  simp [hlow, hne]

/-- One more pop takes the next byte off the end of those already popped. -/
theorem popAll_succ_of_pop {n : Nat} {s t u : State} {vs : List Byte} {v : Byte} (hpops : popAll n s = .ok (vs, t))
    (hpop : t.pop = .ok (v, u)) : popAll (n + 1) s = .ok (vs ++ [v], u) := by
  induction n generalizing s vs with
  | zero =>
    cases hpops
    simp [popAll, hpop]
  | succ n ih =>
    rw [popAll] at hpops ⊢
    cases hfirst : s.pop with
    | error f => simp [hfirst] at hpops
    | ok first =>
      obtain ⟨w, s₁⟩ := first
      cases hrest : popAll n s₁ with
      | error f => simp [hfirst, hrest] at hpops
      | ok rest =>
        obtain ⟨ws, t₁⟩ := rest
        simp only [hfirst, hrest, ok_bind] at hpops
        cases hpops
        simp [ih hrest]

/-- R111, for sequences: the bytes pushed pop in reverse order and the pops restore S. Nothing above the S the pushes began
with is written, which is what keeps the first byte in place while the others are pushed. -/
theorem popAll_pushAll (s : State) (vs : List Byte) (h : s.CanPush vs.length) :
    ∃ t, pushAll vs s = .ok t ∧ popAll vs.length t = .ok (vs.reverse, t.setSp s.sp) ∧
      ∀ a : Byte, s.sp.toNat < a.toNat → t.read (stackAddr a) = s.read (stackAddr a) := by
  induction vs generalizing s with
  | nil => exact ⟨s, rfl, rfl, fun _ _ => rfl⟩
  | cons v vs ih =>
    have hlen : vs.length + 1 ≤ s.sp.toNat := h
    have hpush : s.CanPush 1 := Nat.le_trans (Nat.le_add_left 1 _) hlen
    have hsp : s.sp ≠ 0x00#8 := canPush_one.1 hpush
    have hpred : (s.sp - 1#8).toNat = s.sp.toNat - 1 := by bv_omega
    obtain ⟨t, hpushes, hpops, habove⟩ :=
      ih ((s.write (stackAddr s.sp) v).setSp (s.sp - 1#8)) (by simp only [State.CanPush, setSp_sp, hpred]; omega)
    simp only [setSp_sp, hpred] at hpops habove
    have hkept : t.read (stackAddr s.sp) = v := by
      rw [habove _ (by omega)]
      simp
    refine ⟨t, ?pushes, ?pops, ?above⟩
    case pushes => simpa [pushAll, push_ok v hpush] using hpushes
    case pops =>
      rw [List.reverse_cons]
      refine popAll_succ_of_pop hpops ?_
      rw [pop_ok (canPop_one.2 (by simp only [setSp_sp]; bv_omega))]
      simp [hkept]
    case above =>
      intro a ha
      have hne : s.sp ≠ a := by bv_omega
      rw [habove a (by omega)]
      simp [hne]

/-- Settles O21 (R111): what PopU16 reads, and the three round trips, each from the state its pushes leave. -/
theorem popsUndoPushes : Obligations.PopsUndoPushes := by
  refine ⟨fun s h => ⟨_, pop16_ok h, rfl⟩, fun s v h => ?byte, fun s v h => ?word, fun s vs h => ?sequence⟩
  case byte =>
    obtain ⟨t, hpush, hpop⟩ := pop_after_push v h
    exact ⟨t, _, hpush, hpop, rfl⟩
  case word =>
    obtain ⟨t, hpush, hpop⟩ := pop16_after_push16 v h
    exact ⟨t, _, hpush, hpop, rfl⟩
  case sequence =>
    obtain ⟨t, hpushes, hpops, -⟩ := popAll_pushAll s vs h
    exact ⟨t, _, hpushes, hpops, rfl⟩

end Sys2Proof.Machine

/-! PROOFS. The one-byte instructions that put a byte into a register and set Z and N from it (41_load_store_transfer.md
R125 to R130). -/

namespace Sys2Proof.Machine

open Sys2Proof

/-- The update of the register named; for each name it is the model's own `setA`, `setX`, `setY` or `setSp`, by `rfl`. -/
def State.setReg (s : State) : Reg → Byte → State
  | .a, v => s.setA v
  | .x, v => s.setX v
  | .y, v => s.setY v
  | .s, v => s.setSp v

section setReg
variable (s : State) (r : Reg) (v : Byte)

@[simp] theorem reg_setReg (q : Reg) : (s.setReg r v).reg q = if q = r then v else s.reg q := by
  cases r <;> cases q <;> rfl

@[simp] theorem setReg_pc : (s.setReg r v).pc = s.pc := by
  cases r <;> rfl

@[simp] theorem setReg_read (addr : Word) : (s.setReg r v).read addr = s.read addr := by
  cases r <;> rfl

@[simp] theorem setReg_traceEnabled : (s.setReg r v).traceEnabled = s.traceEnabled := by
  cases r <;> rfl

@[simp] theorem setReg_status : (s.setReg r v).status = s.status := by
  cases r <;> rfl

end setReg

@[simp] theorem setP_reg (s : State) (p : Byte) (r : Reg) : (s.setP p).reg r = s.reg r := by
  cases r <;> rfl

section setsRegister
variable {s t : State} {r : Reg} {v : Byte}

/-- 40_execution_loop.md R113: SetZN leaves Z and N as the result has them. -/
theorem zeroNegativeFrom_of_setZN {p : Byte} (h : t.p = setZN p v) : ZeroNegativeFrom v t := by
  constructor <;> simp [h]

/-- A register update with SetZN changes that register, Z and N only. -/
theorem frame_setReg_setZN : Frame [r] [.zero, .negative] [] s ((s.setReg r v).setP (setZN s.p v)) := by
  refine ⟨?regs, ?flags, fun a _ => setReg_read s r v a, setReg_traceEnabled s r v, setReg_status s r v⟩
  case regs =>
    intro q hq
    rw [setP_reg, reg_setReg, if_neg (List.ne_of_not_mem_cons hq)]
  case flags =>
    intro f hf
    obtain ⟨hzero, hnegative⟩ : f ≠ .zero ∧ f ≠ .negative := by simpa using hf
    simp [hzero, hnegative]

/-- A one-byte variant that updates a register and P by SetZN does nothing else. -/
theorem setsRegister_of_exec {i : Instr} (h : exec i s = .next ((s.setReg r v).setP (setZN s.p v))) :
    SetsRegister r v i s :=
  ⟨_, h, by simp, zeroNegativeFrom_of_setZN rfl, setReg_pc s r v, frame_setReg_setZN⟩

/-- R125 to R129: a variant whose rule is the shared transfer of `v` puts `v` into its register and sets Z and N from it. -/
theorem setsRegister_of_transfer {i : Instr} {set : State → Byte → State}
    (hrule : hardware.rule i.mnemonic i.mode i.length s = hardware.transferInto set v 1 s)
    (hset : set s v = s.setReg r v) : SetsRegister r v i s :=
  setsRegister_of_exec (exec_next.2 (by rw [hrule, transferInto_eq, hset]))

end setsRegister

/-- R130: no SetZN here, and the advance of a one-byte variant leaves PC alone (R93). -/
theorem exec_txs (s : State) : exec .txs s = .next (s.setSp s.x) :=
  exec_next.2 (advance_one _)

/-- Settles O26 (R125 to R130): five of the rules are the shared transfer, each with its own register and copy; TXS is not,
for it sets no flag. -/
theorem transfersCopyTheirRegister : Obligations.TransfersCopyTheirRegister := by
  intro s
  refine ⟨?tax, ?tay, ?txa, ?tya, ?tsx, exec_txs s⟩
  case tax | tay | txa | tya | tsx => exact setsRegister_of_transfer rfl rfl

end Sys2Proof.Machine

/-! PROOFS. The read-modify-write instructions (40_execution_loop.md R107, 43_shift_rotate.md R137 to R141). -/

namespace Sys2Proof.Machine

open Sys2Proof

/-- R93: in Accumulator mode PC is already at the next instruction. -/
theorem pcAfter_accumulator {i : Instr} (s : State) (h : i.mode = .accumulator) : pcAfter i s = s.pc := by
  simp [pcAfter, length_accumulator h]

section modifiesPlace
variable {i : Instr} {s : State} {flags : List Flag} {also : Byte → Byte → Byte → Prop} {op : Byte → Byte → Byte × Byte}

/-- R113: SetZN keeps every other flag of P that is kept up to it. -/
theorem getFlag_setZN_of_not_mem {p q : Byte} (v : Byte) (hkept : ∀ f, f ∉ flags → getFlag q f = getFlag p f) (f : Flag)
    (hf : f ∉ .zero :: .negative :: flags) : getFlag (setZN q v) f = getFlag p f := by
  obtain ⟨hzero, hnegative, hf⟩ : f ≠ .zero ∧ f ≠ .negative ∧ f ∉ flags := by simpa using hf
  simp [hzero, hnegative, hkept f hf]

/-- R107: the two updates of a read-modify-write on the accumulator write A and flags of P only. -/
theorem frame_setP_setA {p : Byte} (v : Byte) (hp : ∀ f, f ∉ flags → getFlag p f = getFlag s.p f) :
    Frame [.a] flags [] s ((s.setP p).setA v) := by
  refine ⟨?regs, hp, fun _ _ => rfl, rfl, rfl⟩
  case regs =>
    intro r hr
    cases r
    case a => simp at hr
    case x | y | s => rfl

/-- R107: the updates of a read-modify-write on memory write one byte, flags of P and PC only. -/
theorem frame_setP_write {p : Byte} (ad pc : Word) (v : Byte) (hp : ∀ f, f ∉ flags → getFlag p f = getFlag s.p f) :
    Frame [] flags [ad] s (((s.setP p).write ad v).setPc pc) := by
  refine ⟨fun r _ => ?regs, hp, ?bytes, rfl, rfl⟩
  case regs => cases r <;> rfl
  case bytes =>
    intro b hb
    have hne : ad ≠ b := (List.ne_of_not_mem_cons hb).symm
    simp [hne]

/-- R137 to R141, R146, R149: a variant whose rule is the shared read-modify-write replaces the byte at its place, where `op`
ends in SetZN of its result, and `q`, P as it is before that SetZN, differs from the old P in `flags` only. -/
theorem modifiesPlace_of_modifyAndAdvance {q : Byte → Byte} (hmode : i.mode ≠ .noneAddressing)
    (hrule : hardware.rule i.mnemonic i.mode i.length s = hardware.modifyAndAdvance op i.mode i.length s)
    (hsetZN : ∀ v, (op s.p v).2 = setZN (q v) (op s.p v).1)
    (hkept : ∀ v f, f ∉ flags → getFlag (q v) f = getFlag s.p f)
    (halso : ∀ v, also v (op s.p v).1 (op s.p v).2) : ModifiesPlace flags also i s := by
  have hflags : ∀ v f, f ∉ .zero :: .negative :: flags → getFlag (op s.p v).2 f = getFlag s.p f := fun v => by
    rw [hsetZN]
    exact getFlag_setZN_of_not_mem _ (hkept v)
  by_cases hacc : i.mode = .accumulator
  case pos =>
    have hexec : exec i s = .next ((s.setP (op s.p s.a).2).setA (op s.p s.a).1) := by
      rw [exec_next, hrule, hacc, length_accumulator hacc, modifyAndAdvance_accumulator]
    rw [ModifiesPlace, if_pos hacc]
    exact ⟨_, hexec, halso s.a, zeroNegativeFrom_of_setZN (hsetZN s.a), (pcAfter_accumulator s hacc).symm,
      frame_setP_setA _ (hflags s.a)⟩
  case neg =>
    obtain ⟨ad, had⟩ := (resolve_ok_iff i.mode s).2 ⟨hacc, hmode⟩
    have hexec := exec_next.2 (hrule.trans (modifyAndAdvance_memory op hacc had))
    rw [ModifiesPlace, if_neg hacc]
    refine ⟨ad, _, had, hexec, ?effect, ?zeroNegative, rfl, frame_setP_write ad _ _ (hflags (s.read ad))⟩
    case effect => simpa using halso (s.read ad)
    case zeroNegative => simpa using zeroNegativeFrom_of_setZN (hsetZN (s.read ad))

/-- R138 to R141: a variant whose rule shifts by `op` replaces the byte at its place by the number `n` gives and moves bit
`k`, the one shifted out, to C. -/
theorem modifiesPlace_of_shift {mn : Mnemonic} {k : Nat} {n : Byte → Nat} (hmn : i.mnemonic = mn)
    (huses : usesMode mn = true) (hrule : ∀ m len, hardware.rule mn m len s = hardware.modifyAndAdvance op m len s)
    (hp : ∀ v, (op s.p v).2 = setZN (setFlag s.p .carry (v.getLsbD k)) (op s.p v).1)
    (hresult : ∀ v, (op s.p v).1.toNat = n v) :
    ModifiesPlace [.carry] (fun v r p => r.toNat = n v ∧ getFlag p .carry = v.getLsbD k) i s := by
  subst hmn
  refine modifiesPlace_of_modifyAndAdvance (mode_resolvable i huses).1 (hrule _ _) hp ?kept
    fun v => ⟨hresult v, by simp [hp]⟩
  case kept =>
    intro v f hf
    have hne : Flag.carry ≠ f := (List.ne_of_not_mem_cons hf).symm
    simp [hne]

end modifiesPlace

/-! The four shifts as numbers: the bit a shift leaves 0 takes a rotate's old carry, so their `or` is a sum -/

theorem toNat_or_of_and_eq_zero {x y : Byte} (h : x &&& y = 0#8) : (x ||| y).toNat = x.toNat + y.toNat := by
  rw [← BitVec.add_eq_or_of_and_eq_zero x y h, BitVec.toNat_add_of_and_eq_zero h]

theorem shiftLeft_and_bool (v : Byte) (b : Bool) : v <<< 1 &&& BitVec.ofNat 8 b.toNat = 0#8 := by
  apply BitVec.eq_of_getLsbD_eq
  intro j hj
  by_cases hzero : j = 0
  · simp [hzero]
  · cases b <;> simp [hzero]

theorem ushiftRight_and_shiftLeft_seven (v w : Byte) : v >>> 1 &&& w <<< 7 = 0#8 := by
  apply BitVec.eq_of_getLsbD_eq
  intro j hj
  by_cases hlow : j < 7
  · simp [hlow]
  · simp [BitVec.getLsbD_of_ge v (1 + j) (by omega)]

section shifts
variable (p v : Byte)

theorem toNat_aslResult : (aslResult p v).1.toNat = 2 * v.toNat % 256 := by
  simp [aslResult, Nat.shiftLeft_eq, Nat.mul_comm]

theorem toNat_lsrResult : (lsrResult p v).1.toNat = v.toNat / 2 := by
  simp [lsrResult, Nat.shiftRight_eq_div_pow]

theorem toNat_rolResult : (rolResult p v).1.toNat = 2 * v.toNat % 256 + (getFlag p .carry).toNat := by
  have hasl : (v <<< 1).toNat = 2 * v.toNat % 256 := toNat_aslResult p v
  rw [rolResult, toNat_or_of_and_eq_zero (shiftLeft_and_bool v _), hasl]
  cases getFlag p .carry <;> rfl

theorem toNat_rorResult : (rorResult p v).1.toNat = v.toNat / 2 + 128 * (getFlag p .carry).toNat := by
  have hlsr : (v >>> 1).toNat = v.toNat / 2 := toNat_lsrResult p v
  rw [rorResult, toNat_or_of_and_eq_zero (ushiftRight_and_shiftLeft_seven v _), hlsr]
  cases getFlag p .carry <;> rfl

end shifts

/-- Settles O31 (R138 to R141): each rule is the shared read-modify-write of its shift, which sends one bit to C and sets Z
and N from its result. -/
theorem shiftsMoveOneBitThroughCarry : Obligations.ShiftsMoveOneBitThroughCarry := by
  intro i s
  refine ⟨fun hasl => ?asl, fun hlsr => ?lsr, fun hrol => ?rol, fun hror => ?ror⟩
  case asl => exact modifiesPlace_of_shift hasl rfl (fun _ _ => rfl) (fun _ => rfl) (toNat_aslResult s.p)
  case lsr => exact modifiesPlace_of_shift hlsr rfl (fun _ _ => rfl) (fun _ => rfl) (toNat_lsrResult s.p)
  case rol => exact modifiesPlace_of_shift hrol rfl (fun _ _ => rfl) (fun _ => rfl) (toNat_rolResult s.p)
  case ror => exact modifiesPlace_of_shift hror rfl (fun _ _ => rfl) (fun _ => rfl) (toNat_rorResult s.p)

end Sys2Proof.Machine

/-! PROOFS. Encoding in general (30_encoding.md sections 1 to 3): the catalog and the table of opcode bytes are each other's
inverse, so decoding and encoding are. -/

namespace Sys2Proof.Machine

open Sys2Proof

open Laws.CatalogRow in
/-- 30_encoding.md R76, R77: the catalog has the row of every variant at the variant's own opcode byte. -/
theorem catalogRow (i : Instr) : Laws.CatalogRow.Statement i := by
  cases i
  exacts [
    ldaImmediate, ldaZeroPage, ldaZeroPageX, ldaAbsolute, ldaAbsoluteX, ldaAbsoluteY, ldaIndirectX,
    ldaIndirectY, ldxImmediate, ldxZeroPage, ldxZeroPageY, ldxAbsolute, ldxAbsoluteY, ldyImmediate,
    ldyZeroPage, ldyZeroPageX, ldyAbsolute, ldyAbsoluteX, staZeroPage, staZeroPageX, staAbsolute, staAbsoluteX,
    staAbsoluteY, staIndirectX, staIndirectY, stxZeroPage, stxZeroPageY, stxAbsolute, styZeroPage,
    styZeroPageX, styAbsolute, tax, tay, txa, tya, tsx, txs, adcImmediate, adcZeroPage, adcZeroPageX,
    adcAbsolute, adcAbsoluteX, adcAbsoluteY, adcIndirectX, adcIndirectY, sbcImmediate, sbcZeroPage,
    sbcZeroPageX, sbcAbsolute, sbcAbsoluteX, sbcAbsoluteY, sbcIndirectX, sbcIndirectY, andImmediate,
    andZeroPage, andZeroPageX, andAbsolute, andAbsoluteX, andAbsoluteY, andIndirectX, andIndirectY,
    oraImmediate, oraZeroPage, oraZeroPageX, oraAbsolute, oraAbsoluteX, oraAbsoluteY, oraIndirectX,
    oraIndirectY, eorImmediate, eorZeroPage, eorZeroPageX, eorAbsolute, eorAbsoluteX, eorAbsoluteY,
    eorIndirectX, eorIndirectY, aslAccumulator, aslZeroPage, aslZeroPageX, aslAbsolute, aslAbsoluteX,
    lsrAccumulator, lsrZeroPage, lsrZeroPageX, lsrAbsolute, lsrAbsoluteX, rolAccumulator, rolZeroPage,
    rolZeroPageX, rolAbsolute, rolAbsoluteX, rorAccumulator, rorZeroPage, rorZeroPageX, rorAbsolute,
    rorAbsoluteX, cmpImmediate, cmpZeroPage, cmpZeroPageX, cmpAbsolute, cmpAbsoluteX, cmpAbsoluteY,
    cmpIndirectX, cmpIndirectY, cpxImmediate, cpxZeroPage, cpxAbsolute, cpyImmediate, cpyZeroPage, cpyAbsolute,
    incZeroPage, incZeroPageX, incAbsolute, incAbsoluteX, inx, iny, decZeroPage, decZeroPageX, decAbsolute,
    decAbsoluteX, dex, dey, bitZeroPage, bitAbsolute, bcc, bcs, beq, bne, bmi, bpl, bvc, bvs, jmpAbsolute,
    jmpIndirect, jsr, rts, pha, pla, php, plp, rti, sec, clc, sed, cld, sei, cli, clv, nop, brk]

/-- 30_encoding.md R76: a row found for a byte stands in the table at that byte. -/
theorem mem_of_lookupRow {rows : List (Byte × CatalogEntry)} {b : Byte} {e : CatalogEntry}
    (h : lookupRow rows b = some e) : (b, e) ∈ rows := by
  induction rows with
  | nil => cases h
  | cons row rows ih =>
    obtain ⟨k, d⟩ := row
    by_cases hk : k = b
    · simp_all [lookupRow]
    · exact List.mem_cons_of_mem _ (ih (by simpa [lookupRow, hk] using h))

/-- 30_encoding.md R76, R77: the other way round, a byte with a row is the opcode byte of the row's variant. -/
theorem opcode_of_entryOf {b : Byte} {e : CatalogEntry} (h : entryOf b = some e) : e.instr.opcode = b := by
  have hrows : (catalogTable.all fun row => row.2.instr.opcode == row.1) = true := by decide
  simpa using List.all_eq_true.1 hrows _ (mem_of_lookupRow h)

/-- 30_encoding.md R65, R66, R69: what it takes for a list of bytes to decode, and to what. -/
theorem decode_cons_eq_ok {op : Byte} {bytes rest : List Byte} {c : Code} (h : decode (op :: bytes) = .ok (c, rest)) :
    ∃ e, entryOf op = some e ∧ e.length - 1 ≤ bytes.length ∧
      c = ⟨e.instr, bytes.take (e.length - 1)⟩ ∧ rest = bytes.drop (e.length - 1) := by
  rw [decode_cons] at h
  cases hentry : entryOf op with
  | none => simp [hentry] at h
  | some e =>
    by_cases hshort : bytes.length < e.length - 1
    · simp [hentry, hshort] at h
    · simp only [hentry, if_neg hshort, Except.ok.injEq, Prod.mk.injEq] at h
      exact ⟨e, rfl, not_lt.1 hshort, h.1.symm, h.2.symm⟩

/-- Settles O3: every variant has its row in the catalog, which is all that the decoding of an encoding rests on. -/
theorem decodeOfEncodeIsTheInstruction : Obligations.DecodeOfEncodeIsTheInstruction :=
  fun c rest wf => decode_encode_append (catalogRow c.instr) wf rest

/-- Settles O4: the first byte has a row, whose variant has that byte as its opcode and takes as many operand bytes as its
format has. -/
theorem decodedBytesAreTheEncoding : Obligations.DecodedBytesAreTheEncoding := by
  intro bytes rest c h
  cases bytes with
  | nil => cases h
  | cons op bytes =>
    obtain ⟨e, hentry, hlength, rfl, rfl⟩ := decode_cons_eq_ok h
    constructor
    · have hformat : e.length = e.instr.length := entryOf_length hentry
      have hpos : 1 ≤ e.instr.length := by
        unfold Instr.length
        cases e.instr.mode <;> decide
      simp only [WellFormed, List.length_take, beq_iff_eq]
      omega
    · simp [encode, opcode_of_entryOf hentry]

/-- Settles O2 (R83): each sample is the encoding of a well-formed instruction, and the last byte has no row. -/
theorem familySampleBytesDecode : Obligations.FamilySampleBytesDecode := by
  have sample (i : Instr) (operands rest : List Byte) (wf : WellFormed ⟨i, operands⟩ = true) :=
    decode_encode_append (catalogRow i) wf rest
  exact ⟨sample .ldaIndirectY [0x10] [] rfl, sample .staAbsolute [0x00, 0x02] [] rfl, sample .txs [] [] rfl,
    sample .sbcImmediate [0x01] [] rfl, sample .aslAccumulator [] [] rfl, sample .decAbsolute [0x00, 0x02] [] rfl,
    sample .bne [0x80] [] rfl, sample .jmpIndirect [0xFF, 0x12] [] rfl, sample .jsr [0x00, 0x90] [] rfl,
    sample .rti [] [] rfl, sample .clv [] [0xEA] rfl, rfl⟩

/-- Settles O5 (R79, D2): a fact about the 256 bytes of this hardware's catalog. -/
theorem unknownOpcodesAreTheListedBytes : Obligations.UnknownOpcodesAreTheListedBytes := by
  unfold Obligations.UnknownOpcodesAreTheListedBytes
  decide

/-- 00_scope.md R13: a word within the range of a signed byte is the sign extension of its low byte. -/
theorem sext16_lowByte {w : Word} (hlow : -128 ≤ w.toInt) (hhigh : w.toInt ≤ 127) : sext16 (lowByte w) = w := by
  apply BitVec.eq_of_toInt_eq
  have hbyte : (lowByte w).toInt = ((w.toNat : Int) % 256).bmod 256 := by
    simp [lowByte, BitVec.toInt_eq_toNat_bmod]
  have hword := BitVec.toInt_eq_toNat_cond w
  rw [sext16, BitVec.toInt_signExtend_of_le (by decide), hbyte, Int.bmod_def]
  split at hword <;> split <;> omega

/-- Settles O6: the offset of the target from the next instruction is the sign extension of the operand byte. -/
theorem relativeOperandReachesItsTarget : Obligations.RelativeOperandReachesItsTarget := by
  intro s target hback hforward hoperand
  rw [resolve_relative, hoperand, sext16_lowByte hback hforward]
  congr 1
  bv_omega

end Sys2Proof.Machine

/-! PROOFS. What every step keeps (40_execution_loop.md section 1): a property of states that each register update and each
write keeps is kept by every instruction but BRK, whose halt is the one change of the run status. -/

namespace Sys2Proof.Machine

open Sys2Proof

/-- A property that no update an instruction makes can destroy; the run status, which only BRK writes, is left out. -/
structure Kept (P : State → Prop) : Prop where
  setReg : ∀ {s : State} (r : Reg) (v : Byte), P s → P (s.setReg r v)
  setPc : ∀ {s : State} (v : Word), P s → P (s.setPc v)
  setP : ∀ {s : State} (v : Byte), P s → P (s.setP v)
  write : ∀ {s : State} (addr : Word) (v : Byte), P s → P (s.write addr v)

/-- The state of a computation that succeeds has the property. -/
def Yields (P : State → Prop) (r : Except Fault State) : Prop := ∀ t, r = .ok t → P t

theorem yields_ok {P : State → Prop} {s : State} (h : P s) : Yields P (.ok s) := by
  rintro _ ⟨⟩
  exact h

theorem yields_bind {P : State → Prop} {α : Type} {x : Except Fault α} {f : α → Except Fault State}
    (h : ∀ a, x = .ok a → Yields P (f a)) : Yields P (x >>= f) := by
  cases x with
  | error e => exact fun t ht => nomatch ht
  | ok a => exact h a rfl

section kept
variable {P : State → Prop} (hP : Kept P) {ps : Params} {m : AddressingMode} {len : Nat} {s : State}
include hP

theorem yields_advance (hs : P s) : Yields P (ps.advance len s) :=
  yields_bind fun pc _ => yields_ok (hP.setPc pc hs)

theorem yields_push (v : Byte) (hs : P s) : Yields P (s.push v) := by
  rw [push_eq]
  split
  · exact fun t ht => nomatch ht
  · exact yields_ok (hP.setReg .s _ (hP.write _ v hs))

theorem yields_push16 (v : Word) (hs : P s) : Yields P (s.push16 v) :=
  yields_bind fun _ ht => yields_push hP _ (yields_push hP _ hs _ ht)

theorem pop_keeps {v : Byte} {t : State} (hs : P s) (h : s.pop = .ok (v, t)) : P t := by
  rw [pop_eq] at h
  split at h
  · cases h
  · cases h
    exact hP.setReg .s _ hs

theorem pop16_keeps {v : Word} {t : State} (hs : P s) (h : s.pop16 = .ok (v, t)) : P t := by
  rw [pop16_eq] at h
  split at h
  · cases h
  · cases h
    exact hP.setReg .s _ hs

/-! The rules of 41 to 48 -/

theorem yields_loadInto {set : State → Byte → State} (hset : ∀ v, P (set s v)) : Yields P (ps.loadInto set m len s) :=
  yields_bind fun v _ => yields_advance hP (hP.setP _ (hset v))

theorem yields_storeFrom (v : Byte) (hs : P s) : Yields P (ps.storeFrom v m len s) :=
  yields_bind fun addr _ => yields_advance hP (hP.write addr v hs)

theorem yields_accumulate (op : Byte → Byte → Byte → Byte × Byte) (hs : P s) : Yields P (ps.accumulate op m len s) :=
  yields_bind fun _ _ => yields_advance hP (hP.setP _ (hP.setReg .a _ hs))

theorem yields_compareWith (reg : Byte) (hs : P s) : Yields P (ps.compareWith reg m len s) :=
  yields_bind fun _ _ => yields_advance hP (hP.setP _ hs)

theorem yields_ruleBit (hs : P s) : Yields P (ps.ruleBit m len s) :=
  yields_bind fun _ _ => yields_advance hP (hP.setP _ hs)

theorem yields_readModifyWrite (op : Byte → Byte → Byte × Byte) (hs : P s) : Yields P (ps.readModifyWrite m op s) :=
  yields_bind fun place _ => yields_ok (by
    cases place with
    | accumulator => exact hP.setReg .a _ (hP.setP _ hs)
    | memory addr => exact hP.write addr _ (hP.setP _ hs))

theorem yields_modifyAndAdvance (op : Byte → Byte → Byte × Byte) (hs : P s) :
    Yields P (ps.modifyAndAdvance op m len s) :=
  yields_bind fun _ ht => yields_advance hP (yields_readModifyWrite hP op hs _ ht)

theorem yields_ruleJmp (hs : P s) : Yields P (ps.ruleJmp m s) :=
  yields_bind fun target _ => yields_ok (hP.setPc target hs)

theorem yields_branch (cond : Bool) (hs : P s) : Yields P (ps.branch cond len s) := by
  cases cond with
  | false => exact yields_advance hP hs
  | true => exact yields_ruleJmp hP (m := .relative) hs

theorem yields_ruleJsr (hs : P s) : Yields P (ps.ruleJsr len s) :=
  yields_bind fun ret _ => yields_bind fun _ ht => yields_ruleJmp hP (yields_push16 hP ret hs _ ht)

theorem yields_ruleRts (hs : P s) : Yields P (ps.ruleRts s) :=
  yields_bind fun _ ht => yields_bind fun pc _ => yields_ok (hP.setPc pc (pop16_keeps hP hs ht))

theorem yields_rulePla (hs : P s) : Yields P (ps.rulePla len s) :=
  yields_bind fun _ ht => yields_advance hP (hP.setP _ (hP.setReg .a _ (pop_keeps hP hs ht)))

theorem yields_rulePlp (hs : P s) : Yields P (ps.rulePlp len s) :=
  yields_bind fun _ ht => yields_advance hP (hP.setP _ (pop_keeps hP hs ht))

theorem yields_ruleRti (hs : P s) : Yields P (ruleRti s) :=
  yields_bind fun _ ht => yields_bind fun _ hu =>
    yields_ok (hP.setPc _ (pop16_keeps hP (hP.setP _ (pop_keeps hP hs ht)) hu))

theorem yields_rule {mn : Mnemonic} (hbrk : mn ≠ .brk) (hs : P s) : Yields P (ps.rule mn m len s) := by
  cases mn
  case lda => exact yields_loadInto hP fun v => hP.setReg .a v hs
  case ldx => exact yields_loadInto hP fun v => hP.setReg .x v hs
  case ldy => exact yields_loadInto hP fun v => hP.setReg .y v hs
  case sta | stx | sty => exact yields_storeFrom hP _ hs
  case adc | sbc | and | ora | eor => exact yields_accumulate hP _ hs
  case asl | lsr | rol | ror | inc | dec => exact yields_modifyAndAdvance hP _ hs
  case cmp | cpx | cpy => exact yields_compareWith hP _ hs
  case bit => exact yields_ruleBit hP hs
  case bcc | bcs | beq | bne | bmi | bpl | bvc | bvs => exact yields_branch hP _ hs
  case jmp => exact yields_ruleJmp hP hs
  case jsr => exact yields_ruleJsr hP hs
  case rts => exact yields_ruleRts hP hs
  case pha | php => exact yields_bind fun _ ht => yields_advance hP (yields_push hP _ hs _ ht)
  case pla => exact yields_rulePla hP hs
  case plp => exact yields_rulePlp hP hs
  case rti => exact yields_ruleRti hP hs
  case txa | tya => exact yields_advance hP (hP.setP _ (hP.setReg .a _ hs))
  case tax | tsx | inx | dex => exact yields_advance hP (hP.setP _ (hP.setReg .x _ hs))
  case tay | iny | dey => exact yields_advance hP (hP.setP _ (hP.setReg .y _ hs))
  case txs => exact yields_advance hP (hP.setReg .s _ hs)
  case sec | clc | sed | cld | sei | cli | clv => exact yields_advance hP (hP.setP _ hs)
  case nop => exact yields_advance hP hs
  case brk => exact absurd rfl hbrk

end kept

/-- 30_encoding.md R77: the halting mnemonic has one variant. -/
theorem eq_brk_of_mnemonic {i : Instr} (h : i.mnemonic = .brk) : i = .brk := by
  cases i
  case brk => rfl
  all_goals cases h

/-- R178: the advance of a one-byte variant leaves PC alone, so the halt is all there is. -/
theorem exec_brk (s : State) : exec .brk s = .next (s.setStatus .idle) :=
  exec_next.2 (ruleBrk_eq s)

/-- Every instruction but BRK keeps what the updates keep. -/
theorem exec_keeps {P : State → Prop} (hP : Kept P) {i : Instr} {s t : State} (hi : i ≠ .brk) (h : exec i s = .next t)
    (hs : P s) : P t :=
  yields_rule hP (mt eq_brk_of_mnemonic hi) hs t (exec_next.1 h)

theorem kept_mem_wf : Kept fun s => s.mem.wf = true where
  setReg r _ h := by cases r <;> exact h
  setPc _ h := h
  setP _ h := h
  write addr v h := write_wf h addr v

theorem kept_status (r : RunStatus) : Kept fun s => s.status = r where
  setReg q v h := (setReg_status _ q v).trans h
  setPc _ h := h
  setP _ h := h
  write _ _ h := h

/-- R94, R95: what an instruction leaves of the run status. -/
theorem exec_status {i : Instr} {s t : State} (h : exec i s = .next t) :
    t.status = if i = .brk then .idle else s.status := by
  by_cases hi : i = .brk
  · subst hi
    rw [exec_brk] at h
    cases h
    rfl
  · rw [if_neg hi]
    exact exec_keeps (kept_status s.status) hi h rfl

theorem exec_mem_wf {i : Instr} {s t : State} (h : exec i s = .next t) (hs : s.mem.wf = true) : t.mem.wf = true := by
  by_cases hi : i = .brk
  · subst hi
    rw [exec_brk] at h
    cases h
    exact hs
  · exact exec_keeps kept_mem_wf hi h hs

/-- R88: a step that answers a next state has executed the row of the byte at PC. -/
theorem exec_of_step_next {s t : State} (h : step s = .next t) :
    ∃ e, entryOf (s.read s.pc) = some e ∧ exec e.instr ((s.setStatus .running).setPc (s.pc + 1#16)) = .next t := by
  rcases step_cases s with ⟨f, -, hrefused⟩ | ⟨-, -, hfault⟩ | ⟨-, e, hentry, hexec⟩
  · rw [hrefused] at h
    cases h
  · rw [hfault] at h
    cases h
  · exact ⟨e, hentry, hexec.symm.trans h⟩

/-- R95: the run status after a step, by the variant it executed. -/
theorem step_status {s t : State} (h : step s = .next t) :
    ∃ e, entryOf (s.read s.pc) = some e ∧ t.status = if e.instr = .brk then .idle else .running := by
  obtain ⟨e, hentry, hexec⟩ := exec_of_step_next h
  exact ⟨e, hentry, exec_status hexec⟩

theorem idle_or_running_of_step {s t : State} (h : step s = .next t) : t.status = .idle ∨ t.status = .running := by
  obtain ⟨e, -, hstatus⟩ := step_status h
  rw [hstatus]
  by_cases hbrk : e.instr = .brk <;> simp [hbrk]

/-- Settles O10: memory stays in canonical form because every write keeps it, and a step leaves the core Idle or
Running. -/
theorem stepKeepsTheInvariant : Obligations.StepKeepsTheInvariant := by
  rintro s t ⟨hwf, -⟩ h
  obtain ⟨e, -, hexec⟩ := exec_of_step_next h
  exact ⟨exec_mem_wf hexec hwf, idle_or_running_of_step h⟩

/-- Settles O11 (R197): reset's memory is empty and its status Idle. -/
theorem resetMeetsTheInvariant : Obligations.ResetMeetsTheInvariant :=
  ⟨reset_mem_wf, .inl rfl⟩

/-- 30_encoding.md R77: BRK's opcode byte, and no other variant's, is 0x00. -/
theorem opcode_eq_zero {i : Instr} : i.opcode = 0x00#8 ↔ i = .brk := by
  cases i <;> decide

/-- Settles O12 (R94, R95): the one halting variant is BRK, and 0x00 is its byte. -/
theorem stepHaltsExactlyAtBrk : Obligations.StepHaltsExactlyAtBrk := by
  intro s t h
  obtain ⟨e, hentry, hstatus⟩ := step_status h
  refine ⟨?_, idle_or_running_of_step h⟩
  rw [hstatus, ← opcode_of_entryOf hentry, opcode_eq_zero]
  by_cases hbrk : e.instr = .brk <;> simp [hbrk]

/-- Settles O45 (R178): BRK's advance leaves PC alone, and its halt writes the run status only. -/
theorem brkOnlyHalts : Obligations.BrkOnlyHalts := exec_brk

/-- Settles O9 (R185, D9): of the three things a step can do, the refusal is the faulted core's, and `exec` refuses
nothing. -/
theorem stepRefusesExactlyFaultedCores : Obligations.StepRefusesExactlyFaultedCores := by
  intro s r
  rcases step_cases s with ⟨f, hfaulted, hstep⟩ | ⟨hlive, -, hstep⟩ | ⟨hlive, e, -, hstep⟩ <;> rw [hstep]
  case inl => simp [hfaulted, eq_comm]
  case inr.inl => simp [hlive]
  case inr.inr => simp [hlive, exec_not_refused]

/-! The bytes at PC, of which the first selects the row and the rest are the operand bytes. -/

/-- 60_exceptions.md R194: the first bytes from an address on are those of a longer run from there. -/
theorem take_bytesAt (s : State) (addr : Word) {k n : Nat} (h : k ≤ n) :
    (s.bytesAt addr n).take k = s.bytesAt addr k := by
  induction n generalizing addr k with
  | zero => simp_all [State.bytesAt]
  | succ n ih =>
    cases k with
    | zero => rfl
    | succ k => simp [State.bytesAt, ih (addr + 1#16) (Nat.le_of_succ_le_succ h)]

theorem length_bytesAt (s : State) (addr : Word) (n : Nat) : (s.bytesAt addr n).length = n := by
  induction n generalizing addr with
  | zero => rfl
  | succ n ih => simp [State.bytesAt, ih]

/-- Where the bytes at PC decode, the row of the byte at PC names the variant, and the operand bytes are those after it. -/
theorem entryOf_of_decode_bytesAt {s : State} {c : Code} {rest : List Byte}
    (h : decode (s.bytesAt s.pc 3) = .ok (c, rest)) :
    ∃ e, entryOf (s.read s.pc) = some e ∧ c = ⟨e.instr, s.bytesAt (s.pc + 1#16) (e.length - 1)⟩ := by
  obtain ⟨e, hentry, hlength, hc, -⟩ := decode_cons_eq_ok h
  rw [length_bytesAt] at hlength
  exact ⟨e, hentry, by rw [hc, take_bytesAt s _ hlength]⟩

/-- Settles O7 (R88, R89): the row the decoder finds is the row the step executes. -/
theorem stepExecutesTheDecodedInstruction : Obligations.StepExecutesTheDecodedInstruction := by
  intro s c rest h hlive
  obtain ⟨e, hentry, rfl⟩ := entryOf_of_decode_bytesAt h
  rcases step_cases s with ⟨f, hfaulted, -⟩ | ⟨-, hnone, -⟩ | ⟨-, e', hentry', hstep⟩
  · exact absurd hfaulted (hlive f)
  · simp [hentry] at hnone
  · obtain rfl : e = e' := by simpa [hentry] using hentry'
    exact hstep

/-- Settles O15 (R194, D15): the record takes its bytes from the state the decoder reads. -/
theorem traceRecordHoldsTheInstructionBytes : Obligations.TraceRecordHoldsTheInstructionBytes := by
  intro s c rest h htrace
  obtain ⟨e, hentry, rfl⟩ := entryOf_of_decode_bytesAt h
  simp [emittedRecord_eq, htrace, hentry, CatalogEntry.descriptor]

end Sys2Proof.Machine

/-! PROOFS. The resolver's two failures, frames, and the stack's capacity (20_memory.md section 5, 40_execution_loop.md
sections 2 and 4). -/

namespace Sys2Proof.Machine

open Sys2Proof

/-- Settles O16 (R97 to R105): the resolver's arms, one after the other. -/
theorem resolverGivesTheEffectiveAddress : Obligations.ResolverGivesTheEffectiveAddress := fun s =>
  ⟨resolve_immediate s, resolve_zeroPage s, resolve_zeroPageX s, resolve_zeroPageY s, resolve_absolute s,
    resolve_absoluteX s, resolve_absoluteY s, resolve_indirect s, resolve_indirectX s, resolve_indirectY s,
    resolve_relative s⟩

/-- R106: the two arms that fault. -/
theorem resolve_of_no_address {m : AddressingMode} (s : State) (h : m = .accumulator ∨ m = .noneAddressing) :
    hardware.resolve m s = .error (.unsupportedAddressingMode m s.opAddr) := by
  rcases h with rfl | rfl <;> rfl

/-- Settles O17 (R106): the two modes without an address fault as their arms say, and every other mode has an address. -/
theorem resolverFaultsExactlyWithoutAnAddress : Obligations.ResolverFaultsExactlyWithoutAnAddress := by
  intro m s f
  by_cases hm : m = .accumulator ∨ m = .noneAddressing
  · rw [resolve_of_no_address s hm]
    simp [hm, State.opAddr, eq_comm]
  · obtain ⟨ad, had⟩ := (resolve_ok_iff m s).2 (not_or.1 hm)
    simp [had, hm]

section frame
variable {regs regs' : List Reg} {flags flags' : List Flag} {addrs addrs' : List Word} {s t u : State}

/-! Frames: each update within the lists keeps one, so a chain of updates is framed by the lists of what it writes -/

theorem Frame.refl : Frame regs flags addrs s s :=
  ⟨fun _ _ => rfl, fun _ _ => rfl, fun _ _ => rfl, rfl, rfl⟩

theorem Frame.setReg {r : Reg} (v : Byte) (h : Frame regs flags addrs s t) (hr : r ∈ regs) :
    Frame regs flags addrs s (t.setReg r v) := by
  obtain ⟨hregs, hflags, hbytes, htrace, hstatus⟩ := h
  refine ⟨fun q hq => ?_, ?_, fun a ha => ?_, ?_, ?_⟩
  · have hne : q ≠ r := fun e => hq (e ▸ hr)
    rw [reg_setReg, if_neg hne, hregs q hq]
  · cases r <;> exact hflags
  · rw [setReg_read, hbytes a ha]
  · rw [setReg_traceEnabled, htrace]
  · rw [setReg_status, hstatus]

theorem Frame.setPc (pc : Word) (h : Frame regs flags addrs s t) : Frame regs flags addrs s (t.setPc pc) := by
  obtain ⟨hregs, hrest⟩ := h
  exact ⟨fun r hr => by rw [← hregs r hr]; cases r <;> rfl, hrest⟩

theorem Frame.setP {p : Byte} (h : Frame regs flags addrs s t) (hp : ∀ f, f ∉ flags → getFlag p f = getFlag s.p f) :
    Frame regs flags addrs s (t.setP p) := by
  obtain ⟨hregs, -, hrest⟩ := h
  exact ⟨fun r hr => by rw [setP_reg, hregs r hr], hp, hrest⟩

theorem Frame.write {addr : Word} (v : Byte) (h : Frame regs flags addrs s t) (haddr : addr ∈ addrs) :
    Frame regs flags addrs s (t.write addr v) := by
  obtain ⟨hregs, hflags, hbytes, hrest⟩ := h
  refine ⟨fun r hr => ?_, hflags, fun a ha => ?_, hrest⟩
  · rw [← hregs r hr]
    cases r <;> rfl
  · have hne : addr ≠ a := fun e => ha (e ▸ haddr)
    rw [state_read_write, if_neg hne, hbytes a ha]

theorem Frame.trans (h : Frame regs flags addrs s t) (h' : Frame regs' flags' addrs' t u) :
    Frame (regs ++ regs') (flags ++ flags') (addrs ++ addrs') s u := by
  obtain ⟨hregs, hflags, hbytes, htrace, hstatus⟩ := h
  obtain ⟨hregs', hflags', hbytes', htrace', hstatus'⟩ := h'
  refine ⟨fun r hr => ?_, fun f hf => ?_, fun a ha => ?_, htrace'.trans htrace, hstatus'.trans hstatus⟩
  · rw [List.mem_append, not_or] at hr
    rw [hregs' r hr.2, hregs r hr.1]
  · rw [List.mem_append, not_or] at hf
    rw [hflags' f hf.2, hflags f hf.1]
  · rw [List.mem_append, not_or] at ha
    rw [hbytes' a ha.2, hbytes a ha.1]

/-- What a frame leaves open may be closed by what is known of the register, flag or byte itself. -/
theorem Frame.narrow (h : Frame regs flags addrs s t) (hregs' : ∀ r ∈ regs, r ∉ regs' → t.reg r = s.reg r)
    (hflags' : ∀ f ∈ flags, f ∉ flags' → getFlag t.p f = getFlag s.p f)
    (haddrs' : ∀ a ∈ addrs, a ∉ addrs' → t.read a = s.read a) : Frame regs' flags' addrs' s t := by
  obtain ⟨hregs, hflags, hbytes, hrest⟩ := h
  refine ⟨fun r hr => ?_, fun f hf => ?_, fun a ha => ?_, hrest⟩
  · by_cases hmem : r ∈ regs
    exacts [hregs' r hmem hr, hregs r hmem]
  · by_cases hmem : f ∈ flags
    exacts [hflags' f hmem hf, hflags f hmem]
  · by_cases hmem : a ∈ addrs
    exacts [haddrs' a hmem ha, hbytes a hmem]

end frame

section stack
variable {s : State}

/-! R108, R109: the primitives read backwards, and where they fault -/

theorem push_eq_ok {t : State} {v : Byte} (h : s.push v = .ok t) :
    s.CanPush 1 ∧ t = (s.write (stackAddr s.sp) v).setSp (s.sp - 1#8) := by
  by_cases hcan : s.CanPush 1
  · rw [push_ok v hcan] at h
    exact ⟨hcan, (Except.ok.inj h).symm⟩
  · rw [push_eq, if_pos (not_not.1 (mt canPush_one.2 hcan))] at h
    cases h

theorem pop_eq_ok {t : State} {v : Byte} (h : s.pop = .ok (v, t)) :
    s.CanPop 1 ∧ v = s.read (stackAddr (s.sp + 1#8)) ∧ t = s.setSp (s.sp + 1#8) := by
  by_cases hcan : s.CanPop 1
  · rw [pop_ok hcan] at h
    cases h
    exact ⟨hcan, rfl, rfl⟩
  · rw [pop_eq, if_pos (not_not.1 (mt canPop_one.2 hcan))] at h
    cases h

theorem push_overflow (v : Byte) (h : s.sp = 0x00#8) : s.push v = .error (.stackOverflow 0x00#8 s.opAddr) := by
  rw [push_eq, if_pos h]

theorem pop_underflow (h : s.sp = 0xFF#8) : s.pop = .error (.stackUnderflow 0xFF#8 s.opAddr) := by
  rw [pop_eq, if_pos h]

theorem frame_push (v : Byte) :
    Frame [.s] [] [stackAddr s.sp] s ((s.write (stackAddr s.sp) v).setSp (s.sp - 1#8)) :=
  (Frame.refl.write v (List.mem_singleton.2 rfl)).setReg (r := .s) _ (List.mem_singleton.2 rfl)

theorem frame_setSp (v : Byte) : Frame [.s] [] [] s (s.setSp v) :=
  Frame.refl.setReg (r := .s) v (List.mem_singleton.2 rfl)

/-- R112: one push more than S allows faults, whatever the bytes; every push but the last moves S one nearer to 0x00. -/
theorem pushAll_overflow (vs : List Byte) (h : s.sp.toNat < vs.length) :
    pushAll vs s = .error (.stackOverflow 0x00#8 s.opAddr) := by
  induction vs generalizing s with
  | nil => exact absurd h (Nat.not_lt_zero _)
  | cons v vs ih =>
    by_cases hsp : s.sp = 0x00#8
    · simp [pushAll, push_overflow v hsp]
    · have hpred : (s.sp - 1#8).toNat = s.sp.toNat - 1 := by bv_omega
      have hrest : s.sp.toNat - 1 < vs.length := by
        simp only [List.length_cons] at h
        bv_omega
      rw [pushAll, push_ok v (canPush_one.2 hsp), ok_bind, ih (by simpa [hpred] using hrest)]
      rfl

/-- R112: as many pops as S is below 0xFF succeed. -/
theorem popAll_ok {n : Nat} (h : s.CanPop n) : ∃ r, popAll n s = .ok r := by
  induction n generalizing s with
  | zero => exact ⟨_, rfl⟩
  | succ n ih =>
    simp only [State.CanPop] at h
    have hsucc : (s.sp + 1#8).toNat = s.sp.toNat + 1 := by bv_omega
    obtain ⟨⟨vs, t⟩, hrest⟩ := ih (s := s.setSp (s.sp + 1#8)) (by simp only [State.CanPop, setSp_sp]; omega)
    have hpop := pop_ok (s := s) (canPop_one.2 (by bv_omega))
    exact ⟨(s.read (stackAddr (s.sp + 1#8)) :: vs, t), by simp [popAll, hpop, hrest]⟩

/-- R112: one pop more than that faults. -/
theorem popAll_underflow {n : Nat} (h : ¬ s.CanPop n) : popAll n s = .error (.stackUnderflow 0xFF#8 s.opAddr) := by
  induction n generalizing s with
  | zero =>
    simp only [State.CanPop] at h
    bv_omega
  | succ n ih =>
    by_cases hsp : s.sp = 0xFF#8
    · simp [popAll, pop_underflow hsp]
    · simp only [State.CanPop] at h
      have hsucc : (s.sp + 1#8).toNat = s.sp.toNat + 1 := by bv_omega
      have hrest := ih (s := s.setSp (s.sp + 1#8)) (by simp only [State.CanPop, setSp_sp]; omega)
      simp [popAll, pop_ok (canPop_one.2 hsp), hrest]

end stack

theorem canPop_iff {s : State} {n : Nat} : s.CanPop n ↔ n ≤ 0xFF - s.sp.toNat := by
  have := s.sp.isLt
  simp only [State.CanPop]
  omega

/-- Settles O22 (R112): below the bound the accesses succeed, and above it the first one past the limit faults. -/
theorem stackCapacityIsS : Obligations.StackCapacityIsS := by
  refine ⟨fun s vs => ⟨?pushes, ?push⟩, fun s n => ⟨?pops, ?pop⟩, fun s vs h => pushAll_overflow vs h,
    fun s n h => popAll_underflow (mt canPop_iff.1 (Nat.not_le.2 h))⟩
  case pushes =>
    rintro ⟨t, ht⟩
    refine Nat.not_lt.1 fun hmore => ?_
    rw [pushAll_overflow vs hmore] at ht
    cases ht
  case push =>
    intro h
    obtain ⟨t, ht, -⟩ := popAll_pushAll s vs h
    exact ⟨t, ht⟩
  case pops =>
    rintro ⟨r, hr⟩
    refine canPop_iff.1 (not_not.1 fun hmore => ?_)
    rw [popAll_underflow hmore] at hr
    cases hr
  case pop => exact fun h => popAll_ok (canPop_iff.2 h)

/-- Settles O23 (R55): a push and a pop name the stack byte by an S that is not 0x00. -/
theorem stackAccessesStayWithinPageOne : Obligations.StackAccessesStayWithinPageOne := by
  refine ⟨fun s t v h => ?push, fun s t v h => ?pop⟩
  case push =>
    obtain ⟨hcan, rfl⟩ := push_eq_ok h
    obtain ⟨hlow, hhigh⟩ := stackAddr_bounds (canPush_one.1 hcan)
    exact ⟨by simp, rfl, rfl, hlow, hhigh, frame_push v⟩
  case pop =>
    obtain ⟨hcan, rfl, rfl⟩ := pop_eq_ok h
    have hsp : s.sp + 1#8 ≠ 0x00#8 := by
      have := canPop_one.1 hcan
      bv_omega
    obtain ⟨hlow, hhigh⟩ := stackAddr_bounds hsp
    exact ⟨rfl, rfl, rfl, hlow, hhigh, frame_setSp _⟩

end Sys2Proof.Machine

/-! PROOFS. The instructions that read or write the byte at their effective address (41_load_store_transfer.md R119 to R124,
42_arithmetic_logic.md, 44_compare_incdec_bit.md). -/

namespace Sys2Proof.Machine

open Sys2Proof

section operand
variable {i : Instr} {mn : Mnemonic} {s : State} {ad : Word} {flags : List Flag}

/-- 30_encoding.md R77, R78: a mnemonic that resolves its mode, and has no Accumulator form, has an effective address in
every variant. -/
theorem resolve_of_mnemonic (s : State) (hmn : i.mnemonic = mn) (huses : usesMode mn = true)
    (hshift : isShift mn = false) : ∃ ad, hardware.resolve i.mode s = .ok ad :=
  resolve_variant i s (hmn ▸ huses) (hmn ▸ hshift)

/-- A variant that fills a register from its operand byte and ends in SetZN, where `q`, P as it is before that SetZN, differs
from the old P in `flags` only. -/
theorem fillsRegister_of_exec {r : Reg} {also : Byte → State → Prop} {v q : Byte}
    (had : hardware.resolve i.mode s = .ok ad)
    (hexec : exec i s = .next (((s.setReg r v).setP (setZN q v)).setPc (pcAfter i s)))
    (hkept : ∀ f, f ∉ flags → getFlag q f = getFlag s.p f)
    (halso : also (s.read ad) (((s.setReg r v).setP (setZN q v)).setPc (pcAfter i s))) :
    FillsRegister r flags also i s := by
  refine ⟨ad, _, had, hexec, halso, ?zeroNegative, rfl, ?frame⟩
  case zeroNegative =>
    have hvalue : (((s.setReg r v).setP (setZN q v)).setPc (pcAfter i s)).reg r = v := by
      cases r <;> rfl
    rw [hvalue]
    exact zeroNegativeFrom_of_setZN rfl
  case frame =>
    exact ((Frame.refl.setReg v (List.mem_singleton.2 rfl)).setP (getFlag_setZN_of_not_mem v hkept)).setPc _

/-- R119 to R121: a variant whose rule is the shared load puts its operand byte into the register. -/
theorem fillsRegister_of_load {r : Reg} {set : State → Byte → State} (hmn : i.mnemonic = mn) (huses : usesMode mn = true)
    (hshift : isShift mn = false) (hrule : ∀ m len, hardware.rule mn m len s = hardware.loadInto set m len s)
    (hset : ∀ s v, set s v = s.setReg r v) : FillsRegister r [] (fun v t => t.reg r = v) i s := by
  obtain ⟨ad, had⟩ := resolve_of_mnemonic s hmn huses hshift
  subst hmn
  have hexec := exec_next.2 ((hrule _ _).trans (loadInto_ok set (fun s v => by rw [hset, setReg_pc]) had))
  rw [hset] at hexec
  exact fillsRegister_of_exec had hexec (fun _ _ => rfl) (by cases r <;> rfl)

/-- R132 to R136: a variant whose rule is the shared accumulator operation puts the result into A; `op` ends in SetZN of its
result, and P as it is before that differs from the old P in `flags` only. -/
theorem fillsRegister_of_accumulate {also : Byte → State → Prop} {op : Byte → Byte → Byte → Byte × Byte}
    (hmn : i.mnemonic = mn) (huses : usesMode mn = true) (hshift : isShift mn = false)
    (hrule : ∀ m len, hardware.rule mn m len s = hardware.accumulate op m len s)
    (hp : ∀ v, ∃ q, (op s.p s.a v).2 = setZN q (op s.p s.a v).1 ∧ ∀ f, f ∉ flags → getFlag q f = getFlag s.p f)
    (halso : ∀ v t, t.a = (op s.p s.a v).1 → t.p = (op s.p s.a v).2 → also v t) :
    FillsRegister .a flags also i s := by
  obtain ⟨ad, had⟩ := resolve_of_mnemonic s hmn huses hshift
  obtain ⟨q, hsetZN, hkept⟩ := hp (s.read ad)
  subst hmn
  have hexec := exec_next.2 ((hrule _ _).trans (accumulate_ok op had))
  rw [hsetZN] at hexec
  exact fillsRegister_of_exec had hexec hkept (halso _ _ rfl hsetZN.symm)

/-- R122 to R124: a variant whose rule is the shared store leaves the byte at its effective address. -/
theorem storesByte_of_store {v : Byte} (hmn : i.mnemonic = mn) (huses : usesMode mn = true) (hshift : isShift mn = false)
    (hrule : ∀ m len, hardware.rule mn m len s = hardware.storeFrom v m len s) : StoresByte v i s := by
  obtain ⟨ad, had⟩ := resolve_of_mnemonic s hmn huses hshift
  subst hmn
  exact ⟨ad, _, had, exec_next.2 ((hrule _ _).trans (storeFrom_ok v had)), by simp, rfl,
    (Frame.refl.write v (List.mem_singleton.2 rfl)).setPc _⟩

/-- R142 to R145, R152: a variant whose rule writes P from its operand byte by `p`, which keeps every flag but `flags`. -/
theorem testsByte_of_rule {also : Byte → Byte → Prop} {p : Byte → Byte} (hmn : i.mnemonic = mn) (huses : usesMode mn = true)
    (hshift : isShift mn = false)
    (hrule : ∀ m len ad, hardware.resolve m s = .ok ad →
      hardware.rule mn m len s = .ok ((s.setP (p (s.read ad))).setPc (s.pc + BitVec.ofInt 16 ((len : Int) - 1))))
    (hkept : ∀ v f, f ∉ flags → getFlag (p v) f = getFlag s.p f) (halso : ∀ v, also v (p v)) :
    TestsByte flags also i s := by
  obtain ⟨ad, had⟩ := resolve_of_mnemonic s hmn huses hshift
  subst hmn
  exact ⟨ad, _, had, exec_next.2 (hrule _ _ ad had), halso _, rfl, (Frame.refl.setP (hkept _)).setPc _⟩

end operand

/-- Settles O24 (R119 to R121): each rule is the shared load into its own register. -/
theorem loadsFillTheirRegister : Obligations.LoadsFillTheirRegister := by
  intro i s
  refine ⟨fun hlda => ?lda, fun hldx => ?ldx, fun hldy => ?ldy⟩
  case lda => exact fillsRegister_of_load hlda rfl rfl (fun _ _ => rfl) fun _ _ => rfl
  case ldx => exact fillsRegister_of_load hldx rfl rfl (fun _ _ => rfl) fun _ _ => rfl
  case ldy => exact fillsRegister_of_load hldy rfl rfl (fun _ _ => rfl) fun _ _ => rfl

/-- Settles O25 (R122 to R124): each rule is the shared store of its own register. -/
theorem storesWriteTheirRegister : Obligations.StoresWriteTheirRegister := by
  intro i s
  refine ⟨fun hsta => ?sta, fun hstx => ?stx, fun hsty => ?sty⟩
  case sta => exact storesByte_of_store hsta rfl rfl fun _ _ => rfl
  case stx => exact storesByte_of_store hstx rfl rfl fun _ _ => rfl
  case sty => exact storesByte_of_store hsty rfl rfl fun _ _ => rfl

/-- R134 to R136: a bitwise result leaves P to SetZN. -/
theorem fillsRegister_of_logic {i : Instr} {s : State} {mn : Mnemonic} {op : Byte → Byte → Byte} (hmn : i.mnemonic = mn)
    (huses : usesMode mn = true) (hshift : isShift mn = false)
    (hrule : ∀ m len, hardware.rule mn m len s = hardware.accumulate (logicResult op) m len s) :
    FillsRegister .a [] (fun v t => t.a = op s.a v) i s :=
  fillsRegister_of_accumulate hmn huses hshift hrule (fun _ => ⟨_, rfl, fun _ _ => rfl⟩) fun _ _ ha _ => ha

/-- Settles O30 (R134 to R136): each rule is the shared accumulator operation of its own bitwise operation. -/
theorem logicCombinesBitwise : Obligations.LogicCombinesBitwise := by
  intro i s
  refine ⟨fun hand => ?and, fun hora => ?ora, fun heor => ?eor⟩
  case and => exact fillsRegister_of_logic (op := (· &&& ·)) hand rfl rfl fun _ _ => rfl
  case ora => exact fillsRegister_of_logic (op := (· ||| ·)) hora rfl rfl fun _ _ => rfl
  case eor => exact fillsRegister_of_logic (op := (· ^^^ ·)) heor rfl rfl fun _ _ => rfl

/-! Addition and subtraction as numbers -/

theorem getLsbD_seven (v : Byte) : v.getLsbD 7 = decide (128 ≤ v.toNat) := by
  simpa [BitVec.msb_eq_getLsbD_last] using BitVec.msb_eq_decide v

/-- D4: two operands of one sign and a sum of the other is signed overflow. -/
theorem adcOverflowRule_eq (a v : Byte) (cin : Bool) :
    adcOverflowRule a v cin =
      decide (a.toInt + v.toInt + cin.toNat < -128 ∨ 127 < a.toInt + v.toInt + cin.toNat) := by
  have hsum : (BitVec.ofNat 8 (a.toNat + v.toNat + cin.toNat)).toNat = (a.toNat + v.toNat + cin.toNat) % 256 := by simp
  have hcin : cin.toNat ≤ 1 := cin.toNat_le
  have := a.isLt
  have := v.isLt
  rw [Bool.eq_iff_iff, BitVec.toInt_eq_toNat_cond, BitVec.toInt_eq_toNat_cond]
  simp only [adcOverflowRule, BitVec.getLsbD_and, BitVec.getLsbD_xor]
  simp only [getLsbD_seven, hsum, Bool.and_eq_true, bne_iff_ne, ne_eq, decide_eq_decide, decide_eq_true_eq]
  omega

section adc
variable (p a v : Byte)

theorem toNat_adcResult :
    (hardware.adcResult p a v).1.toNat = (a.toNat + v.toNat + (getFlag p .carry).toNat) % 256 := by
  simp [Params.adcResult]

theorem carry_adcResult :
    getFlag (hardware.adcResult p a v).2 .carry = decide (256 ≤ a.toNat + v.toNat + (getFlag p .carry).toNat) := by
  simp [Params.adcResult]

theorem overflow_adcResult :
    getFlag (hardware.adcResult p a v).2 .overflow =
      decide (a.toInt + v.toInt + (getFlag p .carry).toNat < -128 ∨
        127 < a.toInt + v.toInt + (getFlag p .carry).toNat) := by
  have hrule : hardware.adcOverflowRule = adcOverflowRule := rfl
  simp [Params.adcResult, hrule, adcOverflowRule_eq]

/-- R132: ADC writes C and V and then SetZN its result, and no other flag. -/
theorem kept_adcResult : ∃ q, (hardware.adcResult p a v).2 = setZN q (hardware.adcResult p a v).1 ∧
    ∀ f, f ∉ [.carry, .overflow] → getFlag q f = getFlag p f := by
  refine ⟨_, rfl, fun f hf => ?_⟩
  obtain ⟨hcarry, hoverflow⟩ : f ≠ .carry ∧ f ≠ .overflow := by simpa using hf
  simp [hcarry.symm, hoverflow.symm]

end adc

/-- Settles O27 (R132, D4): ADC's rule is the shared accumulator operation, and no part of its result reads D. -/
theorem adcAddsWithCarry : Obligations.AdcAddsWithCarry := by
  intro i s hadc
  refine fillsRegister_of_accumulate hadc rfl rfl (fun _ _ => rfl) (kept_adcResult s.p s.a) fun v t ha hp => ?_
  rw [ha, hp]
  exact ⟨toNat_adcResult s.p s.a v, carry_adcResult s.p s.a v, overflow_adcResult s.p s.a v⟩

/-- D4, D5: the difference overflows where the sum with the complement does, since both have the same result. -/
theorem sbcOverflowRule_eq (a v : Byte) (cin : Bool)
    (hr : BitVec.ofInt 8 ((a.toNat : Int) - v.toNat - (1 - cin.toNat)) =
      BitVec.ofNat 8 (a.toNat + (~~~v).toNat + cin.toNat)) :
    sbcOverflowRule a v cin = adcOverflowRule a (~~~v) cin := by
  simp only [sbcOverflowRule, adcOverflowRule, hr, BitVec.getLsbD_and, BitVec.getLsbD_xor, BitVec.getLsbD_not]
  generalize (BitVec.ofNat 8 (a.toNat + (~~~v).toNat + cin.toNat)).getLsbD 7 = r
  cases a.getLsbD 7 <;> cases v.getLsbD 7 <;> cases r <;> rfl

/-- Settles O29 (R133): the complement is 255 less the operand, so the difference and the sum are one number modulo 256, and
the sum is at least 256 where the difference is not negative. -/
theorem sbcIsAdcOfTheComplement : Obligations.SbcIsAdcOfTheComplement := by
  intro p a v
  have hnot : (~~~v).toNat = 255 - v.toNat := BitVec.toNat_not
  have hv := v.isLt
  generalize hcin : getFlag p .carry = cin
  have hr : BitVec.ofInt 8 ((a.toNat : Int) - v.toNat - (1 - cin.toNat)) =
      BitVec.ofNat 8 (a.toNat + (~~~v).toNat + cin.toNat) := by
    apply BitVec.eq_of_toNat_eq
    rw [BitVec.toNat_ofInt, BitVec.toNat_ofNat, hnot]
    omega
  have hcarry : decide (0 ≤ (a.toNat : Int) - v.toNat - (1 - cin.toNat)) =
      decide (256 ≤ a.toNat + (~~~v).toNat + cin.toNat) := by
    rw [decide_eq_decide, hnot]
    omega
  have hoverflow : hardware.sbcOverflowRule a v cin = hardware.adcOverflowRule a (~~~v) cin :=
    sbcOverflowRule_eq a v cin hr
  simp only [Params.sbcResult, Params.adcResult, hcin, hr, hcarry, hoverflow]

/-- D5: the complement as a signed number. -/
theorem toInt_not (v : Byte) : (~~~v).toInt = -v.toInt - 1 := by
  have hnot : (~~~v).toNat = 255 - v.toNat := BitVec.toNat_not
  have := v.isLt
  rw [BitVec.toInt_eq_toNat_cond, BitVec.toInt_eq_toNat_cond, hnot]
  omega

/-- Settles O28 (R133, D5): ADC of the complement, with the sums read as differences. -/
theorem sbcSubtractsWithBorrow : Obligations.SbcSubtractsWithBorrow := by
  intro i s hsbc
  have hcomplement := sbcIsAdcOfTheComplement s.p s.a
  refine fillsRegister_of_accumulate hsbc rfl rfl (fun _ _ => rfl) (fun v => ?kept) fun v t ha hp => ?also
  case kept =>
    rw [hcomplement v]
    exact kept_adcResult s.p s.a (~~~v)
  case also =>
    have hnot : (~~~v).toNat = 255 - v.toNat := BitVec.toNat_not
    have hv := v.isLt
    rw [ha, hp, hcomplement v, toNat_adcResult, carry_adcResult, overflow_adcResult, toInt_not, hnot]
    refine ⟨?result, ?carry, ?overflow⟩
    case result => push_cast; omega
    case carry => rw [decide_eq_decide]; omega
    case overflow => rw [decide_eq_decide]; omega

/-! Compare and bit test -/

/-- R142, D3: the three comparisons. -/
theorem get_compareFlags (p reg v : Byte) (f : Flag) :
    getFlag (hardware.compareFlags p reg v) f =
      if f = .carry then decide (v.toNat ≤ reg.toNat) else if f = .zero then (reg == v)
      else if f = .negative then decide (reg.toNat < v.toNat) else getFlag p f := by
  have hrule : hardware.compareNegativeRule = .literal := rfl
  cases f <;> simp [Params.compareFlags, hrule]

/-- R152. -/
theorem get_bitFlags (p a v : Byte) (f : Flag) :
    getFlag (bitFlags p a v) f =
      if f = .zero then (v &&& a == 0x00#8) else if f = .overflow then v.getLsbD 6
      else if f = .negative then v.getLsbD 7 else getFlag p f := by
  cases f <;> simp [bitFlags]

/-- R142 to R145: a variant whose rule is the shared compare of `reg` orders it against its operand byte. -/
theorem testsByte_of_compare {i : Instr} {s : State} {mn : Mnemonic} {reg : Byte} (hmn : i.mnemonic = mn)
    (huses : usesMode mn = true) (hshift : isShift mn = false)
    (hrule : ∀ m len, hardware.rule mn m len s = hardware.compareWith reg m len s) :
    TestsByte [.carry, .zero, .negative] (fun v p =>
      getFlag p .carry = decide (v.toNat ≤ reg.toNat) ∧ getFlag p .zero = (reg == v) ∧
      getFlag p .negative = decide (reg.toNat < v.toNat)) i s := by
  refine testsByte_of_rule hmn huses hshift (fun m len _ had => (hrule m len).trans (compareWith_ok reg had))
    (fun v f hf => ?kept) fun v => ?also
  case kept =>
    obtain ⟨hcarry, hzero, hnegative⟩ : f ≠ .carry ∧ f ≠ .zero ∧ f ≠ .negative := by simpa using hf
    simp [get_compareFlags, hcarry, hzero, hnegative]
  case also => simp [get_compareFlags]

/-- Settles O32 (R142 to R145): each rule is the shared compare of its own register. -/
theorem comparesSetOrderFlags : Obligations.ComparesSetOrderFlags := by
  rintro i s reg (⟨hcmp, rfl⟩ | ⟨hcpx, rfl⟩ | ⟨hcpy, rfl⟩)
  · exact testsByte_of_compare hcmp rfl rfl fun _ _ => rfl
  · exact testsByte_of_compare hcpx rfl rfl fun _ _ => rfl
  · exact testsByte_of_compare hcpy rfl rfl fun _ _ => rfl

/-- Settles O35 (R152): BIT writes P from its operand byte. -/
theorem bitTestsTheOperand : Obligations.BitTestsTheOperand := by
  intro i s hbit
  refine testsByte_of_rule hbit rfl rfl (fun m len _ had => ruleBit_ok had) (fun v f hf => ?kept) fun v => ?also
  case kept =>
    obtain ⟨hzero, hoverflow, hnegative⟩ : f ≠ .zero ∧ f ≠ .overflow ∧ f ≠ .negative := by simpa using hf
    simp [get_bitFlags, hzero, hoverflow, hnegative]
  case also => simp [get_bitFlags]

/-! Increment and decrement -/

/-- R146, R149: a variant whose rule counts by `op` replaces the byte at its place by the number `n` gives and leaves P to
SetZN. -/
theorem modifiesPlace_of_count {i : Instr} {s : State} {mn : Mnemonic} {op : Byte → Byte → Byte × Byte} {n : Byte → Nat}
    (hmn : i.mnemonic = mn) (huses : usesMode mn = true)
    (hrule : ∀ m len, hardware.rule mn m len s = hardware.modifyAndAdvance op m len s)
    (hp : ∀ v, (op s.p v).2 = setZN s.p (op s.p v).1) (hresult : ∀ v, (op s.p v).1.toNat = n v) :
    ModifiesPlace [] (fun v r _ => r.toNat = n v) i s := by
  subst hmn
  exact modifiesPlace_of_modifyAndAdvance (mode_resolvable i huses).1 (hrule _ _) hp (fun _ _ _ => rfl) hresult

theorem toNat_incResult (p v : Byte) : (incResult p v).1.toNat = (v.toNat + 1) % 256 := by
  simp [incResult]

theorem toNat_decResult (p v : Byte) : (decResult p v).1.toNat = (v.toNat + 255) % 256 := by
  simp [decResult, BitVec.toNat_sub, Nat.add_comm]

/-- Settles O33 (R146, R149): each rule is the shared read-modify-write of its own count. -/
theorem memoryCountsModulo256 : Obligations.MemoryCountsModulo256 := fun _ s =>
  ⟨fun hinc => modifiesPlace_of_count hinc rfl (fun _ _ => rfl) (fun _ => rfl) (toNat_incResult s.p),
    fun hdec => modifiesPlace_of_count hdec rfl (fun _ _ => rfl) (fun _ => rfl) (toNat_decResult s.p)⟩

/-- Settles O34 (R147, R148, R150, R151): each rule is the shared step of its own register. -/
theorem indexRegistersCountModulo256 : Obligations.IndexRegistersCountModulo256 := by
  intro s
  refine ⟨?inx, ?iny, ?dex, ?dey⟩
  case inx => exact setsRegister_of_exec (exec_next.2 (stepRegister_eq s State.setX incResult s.x))
  case iny => exact setsRegister_of_exec (exec_next.2 (stepRegister_eq s State.setY incResult s.y))
  case dex => exact setsRegister_of_exec (exec_next.2 (stepRegister_eq s State.setX decResult s.x))
  case dey => exact setsRegister_of_exec (exec_next.2 (stepRegister_eq s State.setY decResult s.y))

end Sys2Proof.Machine

/-! PROOFS. Branches, jumps, the stack instructions and the flag instructions (45_branch.md, 46_jump_call_return.md,
47_stack_rti.md, 48_flags_nop_brk.md). -/

namespace Sys2Proof.Machine

open Sys2Proof

section control
variable {s : State}

/-- R153: a branch whose condition is that flag `f` is `b`. -/
theorem branchesWhen_of_branch {i : Instr} {f : Flag} {b : Bool}
    (hrule : hardware.rule i.mnemonic i.mode i.length s = hardware.branch (getFlag s.p f == b) 2 s) :
    BranchesWhen f b i s := by
  have htarget : s.pc + sext16 (s.read s.pc) + 1#16 = s.pc + 1#16 + sext16 (s.read s.pc) := by
    rw [BitVec.add_assoc, BitVec.add_comm (sext16 _), ← BitVec.add_assoc]
  refine exec_next.2 (hrule.trans ?_)
  simp only [branch_eq, htarget, beq_iff_eq]

/-- R170 to R176: a one-byte variant whose rule is the shared flag write. -/
theorem setsFlag_of_writeFlag {i : Instr} {f : Flag} {b : Bool}
    (hrule : hardware.rule i.mnemonic i.mode i.length s = hardware.writeFlag f b 1 s) : SetsFlag f b i s := by
  refine ⟨_, exec_next.2 (hrule.trans (writeFlag_eq s f b)), by simp, rfl, Frame.refl.setP fun g hg => ?_⟩
  rw [get_setFlag, if_neg (List.ne_of_not_mem_cons hg).symm]

end control

/-- Settles O36 (R153 to R161): each rule is the shared branch on its own flag. -/
theorem branchesFollowTheirFlag : Obligations.BranchesFollowTheirFlag := by
  intro s
  refine ⟨?bcc, ?bcs, ?beq, ?bne, ?bmi, ?bpl, ?bvc, ?bvs⟩
  case bcc | bcs | beq | bne | bmi | bpl | bvc | bvs => exact branchesWhen_of_branch rfl

/-- Settles O43 (R170 to R176): each rule is the shared write of its own flag. -/
theorem flagInstructionsWriteOneFlag : Obligations.FlagInstructionsWriteOneFlag := by
  intro s
  refine ⟨?sec, ?clc, ?sed, ?cld, ?sei, ?cli, ?clv⟩
  case sec | clc | sed | cld | sei | cli | clv => exact setsFlag_of_writeFlag rfl

/-- Settles O44 (R177): the advance of a one-byte variant leaves PC alone. -/
theorem nopChangesNothing : Obligations.NopChangesNothing := fun s => exec_next.2 (advance_one s)

/-- Settles O37 (R162, D7): JMP loads the address the resolver gives. -/
theorem jumpsLoadTheProgramCounter : Obligations.JumpsLoadTheProgramCounter := fun s =>
  ⟨exec_next.2 (ruleJmp_ok (resolve_absolute s)), exec_next.2 (ruleJmp_ok (resolve_indirect s))⟩

section push
variable {s : State}

/-- R110: what a 16-bit push leaves, the address below a stack byte being that of S less one. -/
theorem push16_lands (v : Word) (hcan : s.CanPush 2) :
    ∃ t, s.push16 v = .ok t ∧ t.read (stackAddr s.sp) = highByte v ∧ t.read (stackAddr (s.sp - 1#8)) = lowByte v ∧
      t.sp = s.sp - 2#8 ∧ t.pc = s.pc ∧ Frame [.s] [] [stackAddr s.sp, stackAddr (s.sp - 1#8)] s t := by
  have hsp : s.sp ≠ 0x00#8 := fun h => canPush_two.1 hcan (.inl h)
  obtain ⟨t, hpush, hhigh, hlow, -, hpointer, hpc, hframe⟩ := (pushU16LandsLittleEndian s v).1 hcan
  have hbelow : 0x0100#16 + zext16 s.sp - 1#16 = stackAddr (s.sp - 1#8) := stackAddr_sub_one hsp
  rw [hbelow] at hlow hframe
  exact ⟨t, hpush, hhigh, hlow, hpointer, hpc, hframe⟩

/-- R163, D20: JSR is a 16-bit push of its last byte's address, then a jump to the operand word read after it. -/
theorem exec_jsr {t : State} (h : s.push16 (s.pc + 1#16) = .ok t) :
    exec .jsr s = .next (t.setPc (concat16 (t.read (t.pc + 1#16)) (t.read t.pc))) := by
  have hrule : hardware.ruleJsr 3 s = (s.push16 (s.pc + 1#16) >>= hardware.ruleJmp .absolute) := rfl
  refine exec_next.2 (hrule.trans ?_)
  rw [h, ok_bind, ruleJmp_ok (resolve_absolute t)]

theorem exec_pha (h : s.CanPush 1) : exec .pha s = .next ((s.write (stackAddr s.sp) s.a).setSp (s.sp - 1#8)) :=
  exec_next.2 ((rulePha_eq s).trans (if_neg (canPush_one.1 h)))

theorem exec_php (h : s.CanPush 1) :
    exec .php s = .next ((s.write (stackAddr s.sp) (pushedStatus s.p)).setSp (s.sp - 1#8)) :=
  exec_next.2 ((rulePhp_eq s).trans (if_neg (canPush_one.1 h)))

end push

/-- Settles O38 (R163, D20): the 16-bit push where it succeeds, then the jump; otherwise the push's fault. -/
theorem jsrPushesItsLastByteAddress : Obligations.JsrPushesItsLastByteAddress := by
  intro s
  refine ⟨fun hcan => ?completes, fun hcan => ?overflow⟩
  case completes =>
    obtain ⟨t, hpush, hhigh, hlow, hsp, hpc, hframe⟩ := push16_lands (s.pc + 1#16) hcan
    refine ⟨_, exec_jsr hpush, hsp, hhigh, hlow, ?_, hframe.setPc _⟩
    simp [hpc]
  case overflow =>
    exact exec_fault.2 ((ruleJsr_eq s).trans (if_pos (not_not.1 (mt canPush_two.2 hcan))))

/-- Settles O40 (R165, R167): the push where it succeeds, and its fault. -/
theorem pushesStoreAtTheStackPointer : Obligations.PushesStoreAtTheStackPointer := by
  intro s
  refine ⟨fun hcan => ?pha, fun hcan => ?php, fun hzero => ⟨?phaOverflow, ?phpOverflow⟩⟩
  case pha => exact ⟨_, exec_pha hcan, by simp, rfl, rfl, frame_push s.a⟩
  case php =>
    refine ⟨_, exec_php hcan, rfl, rfl, frame_push (pushedStatus s.p), fun f => ?_⟩
    by_cases hf : f = .brk ∨ f = .one <;> simp [hf]
  case phaOverflow => exact exec_fault.2 ((rulePha_eq s).trans (if_pos hzero))
  case phpOverflow => exact exec_fault.2 ((rulePhp_eq s).trans (if_pos hzero))

/-- 10_state.md R25: the eight bits of P. -/
theorem mem_allFlags (f : Flag) :
    f ∈ [Flag.carry, .zero, .interruptDisable, .decimal, .brk, .one, .overflow, .negative] := by
  cases f <;> decide

/-- R168: what PLP and RTI store of a popped byte. -/
theorem get_pulledStatus_and (v : Byte) (f : Flag) : getFlag (pulledStatus v) f = (getFlag v f && decide (f ≠ .brk)) := by
  by_cases hf : f = .brk <;> simp [hf]

section pull
variable {s : State}

theorem exec_pla (h : s.CanPop 1) :
    exec .pla s = .next (((s.setSp (s.sp + 1#8)).setA (s.read (stackAddr (s.sp + 1#8)))).setP
      (setZN s.p (s.read (stackAddr (s.sp + 1#8))))) :=
  exec_next.2 ((rulePla_eq s).trans (if_neg (canPop_one.1 h)))

theorem exec_plp (h : s.CanPop 1) :
    exec .plp s = .next ((s.setSp (s.sp + 1#8)).setP (pulledStatus (s.read (stackAddr (s.sp + 1#8))))) :=
  exec_next.2 ((rulePlp_eq s).trans (if_neg (canPop_one.1 h)))

theorem exec_rts (h : s.CanPop 2) :
    exec .rts s = .next ((s.setSp (s.sp + 2#8)).setPc
      (concat16 (s.read (stackAddr (s.sp + 2#8))) (s.read (stackAddr (s.sp + 1#8))) + 1#16)) :=
  exec_next.2 ((ruleRts_eq s).trans (if_neg (canPop_two.1 h)))

theorem canPop_three : s.CanPop 3 ↔ ¬(s.sp = 0xFF#8 ∨ s.sp = 0xFE#8 ∨ s.sp = 0xFD#8) := by
  simp only [State.CanPop]
  bv_omega

/-- R168, R169: a pull into P writes S and flags of P only. -/
theorem frame_setSp_setP (sp p : Byte) :
    Frame [.s] [.carry, .zero, .interruptDisable, .decimal, .brk, .one, .overflow, .negative] [] s
      ((s.setSp sp).setP p) :=
  (Frame.refl.setReg (r := .s) sp (List.mem_singleton.2 rfl)).setP fun f hf => absurd (mem_allFlags f) hf

end pull

/-- Settles O39 (R164): the 16-bit pop where it succeeds, and its fault. -/
theorem rtsReturnsPastThePoppedAddress : Obligations.RtsReturnsPastThePoppedAddress := fun s =>
  ⟨exec_rts, fun hcan => exec_fault.2 ((ruleRts_eq s).trans (if_pos (not_not.1 (mt canPop_two.2 hcan))))⟩

/-- Settles O41 (R166, R168): the pop where it succeeds, and its fault. -/
theorem pullsReadAboveTheStackPointer : Obligations.PullsReadAboveTheStackPointer := by
  intro s
  refine ⟨fun hcan => ?pla, fun hcan => ?plp, fun hfull => ⟨?plaUnderflow, ?plpUnderflow⟩⟩
  case pla =>
    refine ⟨_, exec_pla hcan, rfl, rfl, zeroNegativeFrom_of_setZN rfl, rfl, ?_⟩
    refine ((Frame.refl.setReg (r := .s) _ ?_).setReg (r := .a) _ ?_).setP (getFlag_setZN_of_not_mem _ fun _ _ => rfl)
    · simp
    · simp
  case plp => exact ⟨_, exec_plp hcan, get_pulledStatus_and _, rfl, rfl, frame_setSp_setP _ _⟩
  case plaUnderflow => exact exec_fault.2 ((rulePla_eq s).trans (if_pos hfull))
  case plpUnderflow => exact exec_fault.2 ((rulePlp_eq s).trans (if_pos hfull))

/-- Settles O42 (R169): the three pops where they succeed, and their fault. -/
theorem rtiRestoresStatusAndProgramCounter : Obligations.RtiRestoresStatusAndProgramCounter := by
  intro s
  refine ⟨fun hcan => ?completes, fun hcan => ?underflow⟩
  case completes =>
    have hexec := exec_next (i := .rti).2 ((ruleRti_eq s).trans (if_neg (canPop_three.1 hcan)))
    exact ⟨_, hexec, get_pulledStatus_and _, rfl, rfl, (frame_setSp_setP _ _).setPc _⟩
  case underflow =>
    exact exec_fault.2 ((ruleRti_eq s).trans (if_pos (not_not.1 (mt canPop_three.2 hcan))))

/-- Settles O50 (R163, R164): the RTS pops the word the JSR pushed, which is one below the next instruction, and S is as it
was. -/
theorem rtsReturnsAfterTheJsr : Obligations.RtsReturnsAfterTheJsr := by
  intro s returnPc hcan
  obtain ⟨t, hpush, hhigh, hlow, hsp, -, hframe⟩ := push16_lands (s.pc + 1#16) hcan
  have hbound := canPush_two.1 hcan
  have hupper : s.sp - 2#8 + 2#8 = s.sp := by bv_omega
  have hlower : s.sp - 2#8 + 1#8 = s.sp - 1#8 := by bv_omega
  have hpop : State.CanPop 2 (t.setPc returnPc) := canPop_two.2 (by rw [setPc_sp, hsp]; bv_omega)
  refine ⟨_, _, exec_jsr hpush, exec_rts hpop, ?pc, ?frame⟩
  case pc =>
    simp only [setPc_pc, setPc_sp, setPc_read, hsp, hupper, hlower, hhigh, hlow, concat16_high_low]
    bv_omega
  case frame =>
    refine (((hframe.setPc _).setPc returnPc).setReg (r := .s) _ (List.mem_singleton.2 rfl)).setPc _
      |>.narrow (fun r hr _ => ?_) (fun f hf _ => ?_) (fun a ha hna => absurd ha hna)
    · rw [List.mem_singleton.1 hr]
      exact (congrArg (· + 2#8) hsp).trans hupper
    · cases hf

/-- Settles O51 (R166, R168): the byte a pull reads is the byte the push before it stored, and S is as it was. -/
theorem pullsUndoPushes : Obligations.PullsUndoPushes := by
  intro s hcan
  have hback : s.sp - 1#8 + 1#8 = s.sp := by bv_omega
  have hpop {t : State} (hsp : t.sp = s.sp - 1#8) : t.CanPop 1 :=
    canPop_one.2 (by have := canPush_one.1 hcan; rw [hsp]; bv_omega)
  obtain ⟨hpha, hphp, -⟩ := pushesStoreAtTheStackPointer s
  constructor
  · obtain ⟨t, hpush, hbyte, hsp, -, hframe⟩ := hpha hcan
    obtain ⟨u, hpull, ha, hsp', -, -, hframe'⟩ := (pullsReadAboveTheStackPointer t).1 (hpop hsp)
    rw [hsp, hback] at ha hsp'
    refine ⟨t, u, hpush, hpull, (hframe.trans hframe').narrow (fun r hr _ => ?_) (fun f hf hnf => absurd hf hnf)
      fun a ha hna => absurd ha hna⟩
    cases r
    case a => exact ha.trans hbyte
    case s => exact hsp'
    case x | y => simp at hr
  · obtain ⟨t, hpush, hsp, -, hframe, hbyte⟩ := hphp hcan
    obtain ⟨u, hpull, hp, hsp', -, hframe'⟩ := (pullsReadAboveTheStackPointer t).2.1 (hpop hsp)
    rw [hsp, hback] at hp hsp'
    have hflags (f : Flag) : getFlag u.p f = ((getFlag s.p f || decide (f = .brk ∨ f = .one)) && decide (f ≠ .brk)) := by
      rw [hp, hbyte]
    refine ⟨t, u, hpush, hpull, (hframe.trans hframe').narrow (fun r hr _ => ?_) (fun f _ hf => ?_)
      fun a ha hna => absurd ha hna, by simp [hflags], by simp [hflags]⟩
    · obtain rfl : r = .s := by simpa using hr
      exact hsp'
    · obtain ⟨hbrk, hone⟩ : f ≠ .brk ∧ f ≠ .one := by simpa using hf
      simp [hflags, hbrk, hone]

end Sys2Proof.Machine

/-! PROOFS. Who writes what (10_state.md sections 1 and 2, 20_memory.md sections 4 and 5, 60_exceptions.md): every
instruction completes within the frame of its mnemonic or faults at a stack limit. -/

namespace Sys2Proof.Machine

open Sys2Proof

/-- 10_state.md R19 to R22: the registers a mnemonic writes; the shifts write A in Accumulator mode only. -/
def writtenRegs (mn : Mnemonic) (m : AddressingMode) : List Reg :=
  match mn with
  | .lda | .txa | .tya | .adc | .sbc | .and | .ora | .eor => [.a]
  | .asl | .lsr | .rol | .ror => if m = .accumulator then [.a] else []
  | .ldx | .tax | .tsx | .inx | .dex => [.x]
  | .ldy | .tay | .iny | .dey => [.y]
  | .txs | .pha | .php | .jsr | .plp | .rts | .rti => [.s]
  | .pla => [.a, .s]
  | _ => []

/-- 10_state.md R27 to R34: the flags a mnemonic writes. -/
def writtenFlags : Mnemonic → List Flag
  | .lda | .ldx | .ldy | .tax | .tay | .txa | .tya | .tsx | .and | .ora | .eor | .inc | .inx | .iny | .dec | .dex | .dey
  | .pla => [.zero, .negative]
  | .adc | .sbc => [.zero, .negative, .carry, .overflow]
  | .asl | .lsr | .rol | .ror => [.zero, .negative, .carry]
  | .cmp | .cpx | .cpy => [.carry, .zero, .negative]
  | .bit => [.zero, .overflow, .negative]
  | .sec | .clc => [.carry]
  | .sed | .cld => [.decimal]
  | .sei | .cli => [.interruptDisable]
  | .clv => [.overflow]
  | .plp | .rti => [.carry, .zero, .interruptDisable, .decimal, .brk, .one, .overflow, .negative]
  | _ => []

/-- 20_memory.md section 4: the addresses a mnemonic stores at, in a mode and from a state. -/
def writtenAddrs (mn : Mnemonic) (m : AddressingMode) (s : State) : List Word :=
  match mn with
  | .sta | .stx | .sty | .asl | .lsr | .rol | .ror | .inc | .dec => (hardware.resolve m s).toOption.toList
  | .pha | .php => [stackAddr s.sp]
  | .jsr => [stackAddr s.sp, stackAddr (s.sp - 1#8)]
  | _ => []

section shapes
variable {i : Instr} {s : State} {r : Reg} {flags : List Flag} {v : Byte}

/-! The shapes of an instruction's effect, as a completion within a frame -/

theorem FillsRegister.completes {also : Byte → State → Prop} (h : FillsRegister r flags also i s) :
    ∃ t, exec i s = .next t ∧ Frame [r] (.zero :: .negative :: flags) [] s t := by
  obtain ⟨_, t, -, hexec, -, -, -, hframe⟩ := h
  exact ⟨t, hexec, hframe⟩

theorem StoresByte.completes (h : StoresByte v i s) :
    ∃ t, exec i s = .next t ∧ Frame [] [] (hardware.resolve i.mode s).toOption.toList s t := by
  obtain ⟨_, t, had, hexec, -, -, hframe⟩ := h
  exact ⟨t, hexec, by rw [had]; exact hframe⟩

theorem TestsByte.completes {also : Byte → Byte → Prop} (h : TestsByte flags also i s) :
    ∃ t, exec i s = .next t ∧ Frame [] flags [] s t := by
  obtain ⟨_, t, -, hexec, -, -, hframe⟩ := h
  exact ⟨t, hexec, hframe⟩

theorem ModifiesPlace.completes {also : Byte → Byte → Byte → Prop} (h : ModifiesPlace flags also i s) :
    ∃ t, exec i s = .next t ∧ Frame (if i.mode = .accumulator then [.a] else []) (.zero :: .negative :: flags)
      (hardware.resolve i.mode s).toOption.toList s t := by
  unfold ModifiesPlace at h
  split at h
  case isTrue hacc =>
    obtain ⟨t, hexec, -, -, -, hframe⟩ := h
    exact ⟨t, hexec, by rw [if_pos hacc, resolve_of_no_address s (.inl hacc)]; exact hframe⟩
  case isFalse hacc =>
    obtain ⟨_, t, had, hexec, -, -, -, hframe⟩ := h
    exact ⟨t, hexec, by rw [if_neg hacc, had]; exact hframe⟩

theorem ModifiesPlace.completes_memory {also : Byte → Byte → Byte → Prop} (h : ModifiesPlace flags also i s)
    (hmode : i.mode ≠ .accumulator) :
    ∃ t, exec i s = .next t ∧
      Frame [] (.zero :: .negative :: flags) (hardware.resolve i.mode s).toOption.toList s t := by
  simpa only [if_neg hmode] using h.completes

theorem jmp_completes (h : i.mnemonic = .jmp) : ∃ t, exec i s = .next t ∧ Frame [] [] [] s t := by
  obtain ⟨ad, had⟩ := resolve_of_mnemonic s h rfl rfl
  refine ⟨s.setPc ad, exec_next.2 ?_, Frame.refl.setPc ad⟩
  rw [h]
  exact ruleJmp_ok had

/-- 30_encoding.md R77, R78: only the shifts have an Accumulator form. -/
theorem mode_ne_accumulator {mn : Mnemonic} (hmn : i.mnemonic = mn) (huses : usesMode mn = true)
    (hshift : isShift mn = false) : i.mode ≠ .accumulator := by
  subst hmn
  intro hacc
  simp [(mode_resolvable i huses).2 hacc] at hshift

end shapes

/-- Every variant whose rule resolves its mode completes, and writes what its mnemonic does. -/
theorem completes_of_usesMode (i : Instr) (s : State) (huses : usesMode i.mnemonic = true) :
    ∃ t, exec i s = .next t ∧
      Frame (writtenRegs i.mnemonic i.mode) (writtenFlags i.mnemonic) (writtenAddrs i.mnemonic i.mode s) s t := by
  obtain ⟨hlda, hldx, hldy⟩ := loadsFillTheirRegister i s
  obtain ⟨hsta, hstx, hsty⟩ := storesWriteTheirRegister i s
  obtain ⟨hand, hora, heor⟩ := logicCombinesBitwise i s
  obtain ⟨hasl, hlsr, hrol, hror⟩ := shiftsMoveOneBitThroughCarry i s
  obtain ⟨hinc, hdec⟩ := memoryCountsModulo256 i s
  cases hmn : i.mnemonic
  case lda => exact (hlda hmn).completes
  case ldx => exact (hldx hmn).completes
  case ldy => exact (hldy hmn).completes
  case sta => exact (hsta hmn).completes
  case stx => exact (hstx hmn).completes
  case sty => exact (hsty hmn).completes
  case adc => exact (adcAddsWithCarry i s hmn).completes
  case sbc => exact (sbcSubtractsWithBorrow i s hmn).completes
  case and => exact (hand hmn).completes
  case ora => exact (hora hmn).completes
  case eor => exact (heor hmn).completes
  case asl => exact (hasl hmn).completes
  case lsr => exact (hlsr hmn).completes
  case rol => exact (hrol hmn).completes
  case ror => exact (hror hmn).completes
  case cmp => exact (comparesSetOrderFlags i s s.a (.inl ⟨hmn, rfl⟩)).completes
  case cpx => exact (comparesSetOrderFlags i s s.x (.inr (.inl ⟨hmn, rfl⟩))).completes
  case cpy => exact (comparesSetOrderFlags i s s.y (.inr (.inr ⟨hmn, rfl⟩))).completes
  case inc => exact (hinc hmn).completes_memory (mode_ne_accumulator hmn rfl rfl)
  case dec => exact (hdec hmn).completes_memory (mode_ne_accumulator hmn rfl rfl)
  case bit => exact (bitTestsTheOperand i s hmn).completes
  case jmp => exact jmp_completes hmn
  all_goals simp [hmn, usesMode] at huses

/-- Everything an instruction can do: it completes within the frame of its mnemonic (but for the run status, which BRK
writes), or it faults at a stack limit. -/
inductive ExecCase (i : Instr) (s : State) : Prop where
  | next (t : State) (hexec : exec i s = .next t)
      (hframe : Frame (writtenRegs i.mnemonic i.mode) (writtenFlags i.mnemonic) (writtenAddrs i.mnemonic i.mode s) s
        (t.setStatus s.status))
  | overflow (hexec : exec i s = .fault (.stackOverflow 0x00#8 s.opAddr)) (hmn : i.mnemonic ∈ [.pha, .php, .jsr])
  | underflow (hexec : exec i s = .fault (.stackUnderflow 0xFF#8 s.opAddr)) (hmn : i.mnemonic ∈ [.pla, .plp, .rts, .rti])

theorem Frame.setStatus {regs : List Reg} {flags : List Flag} {addrs : List Word} {s t : State}
    (h : Frame regs flags addrs s t) : Frame regs flags addrs s (t.setStatus s.status) := by
  obtain ⟨hregs, hflags, hbytes, htrace, -⟩ := h
  exact ⟨fun r hr => by rw [← hregs r hr]; cases r <;> rfl, hflags, hbytes, htrace, rfl⟩

section variants
variable {i : Instr} {s : State}

theorem execCase_of_frame {t : State} (hexec : exec i s = .next t)
    (hframe : Frame (writtenRegs i.mnemonic i.mode) (writtenFlags i.mnemonic) (writtenAddrs i.mnemonic i.mode s) s t) :
    ExecCase i s :=
  .next t hexec hframe.setStatus

theorem execCase_of_setsRegister {r : Reg} {v : Byte} (h : SetsRegister r v i s)
    (hregs : writtenRegs i.mnemonic i.mode = [r]) (hflags : writtenFlags i.mnemonic = [.zero, .negative])
    (haddrs : writtenAddrs i.mnemonic i.mode s = []) : ExecCase i s := by
  obtain ⟨t, hexec, -, -, -, hframe⟩ := h
  exact execCase_of_frame hexec (by rw [hregs, hflags, haddrs]; exact hframe)

theorem execCase_of_setsFlag {f : Flag} {b : Bool} (h : SetsFlag f b i s)
    (hregs : writtenRegs i.mnemonic i.mode = []) (hflags : writtenFlags i.mnemonic = [f])
    (haddrs : writtenAddrs i.mnemonic i.mode s = []) : ExecCase i s := by
  obtain ⟨t, hexec, -, -, hframe⟩ := h
  exact execCase_of_frame hexec (by rw [hregs, hflags, haddrs]; exact hframe)

end variants

/-- Everything an instruction can do, from what is known of each. -/
theorem exec_cases (i : Instr) (s : State) : ExecCase i s := by
  by_cases huses : usesMode i.mnemonic = true
  · obtain ⟨t, hexec, hframe⟩ := completes_of_usesMode i s huses
    exact execCase_of_frame hexec hframe
  obtain ⟨hinx, hiny, hdex, hdey⟩ := indexRegistersCountModulo256 s
  obtain ⟨hpha, hphp, hpushFault⟩ := pushesStoreAtTheStackPointer s
  obtain ⟨hpla, hplp, hpullFault⟩ := pullsReadAboveTheStackPointer s
  cases i
  case tax | tay | txa | tya | tsx =>
    exact execCase_of_setsRegister (setsRegister_of_transfer rfl rfl) rfl rfl rfl
  case inx => exact execCase_of_setsRegister hinx rfl rfl rfl
  case iny => exact execCase_of_setsRegister hiny rfl rfl rfl
  case dex => exact execCase_of_setsRegister hdex rfl rfl rfl
  case dey => exact execCase_of_setsRegister hdey rfl rfl rfl
  case txs => exact execCase_of_frame (exec_txs s) (frame_setSp s.x)
  case sec | clc | sed | cld | sei | cli | clv => exact execCase_of_setsFlag (setsFlag_of_writeFlag rfl) rfl rfl rfl
  case bcc | bcs | beq | bne | bmi | bpl | bvc | bvs =>
    exact execCase_of_frame (branchesWhen_of_branch rfl) (Frame.refl.setPc _)
  case nop => exact execCase_of_frame (nopChangesNothing s) Frame.refl
  case brk => exact .next _ (exec_brk s) Frame.refl
  case pha =>
    by_cases hsp : s.sp = 0x00#8
    · exact .overflow (hpushFault hsp).1 (by decide)
    · obtain ⟨t, hexec, -, -, -, hframe⟩ := hpha (canPush_one.2 hsp)
      exact execCase_of_frame hexec hframe
  case php =>
    by_cases hsp : s.sp = 0x00#8
    · exact .overflow (hpushFault hsp).2 (by decide)
    · obtain ⟨t, hexec, -, -, hframe, -⟩ := hphp (canPush_one.2 hsp)
      exact execCase_of_frame hexec hframe
  case pla =>
    by_cases hsp : s.sp = 0xFF#8
    · exact .underflow (hpullFault hsp).1 (by decide)
    · obtain ⟨t, hexec, -, -, -, -, hframe⟩ := hpla (canPop_one.2 hsp)
      exact execCase_of_frame hexec hframe
  case plp =>
    by_cases hsp : s.sp = 0xFF#8
    · exact .underflow (hpullFault hsp).2 (by decide)
    · obtain ⟨t, hexec, -, -, -, hframe⟩ := hplp (canPop_one.2 hsp)
      exact execCase_of_frame hexec hframe
  case jsr =>
    by_cases hcan : s.CanPush 2
    · obtain ⟨t, hexec, -, -, -, -, hframe⟩ := (jsrPushesItsLastByteAddress s).1 hcan
      exact execCase_of_frame hexec hframe
    · exact .overflow ((jsrPushesItsLastByteAddress s).2 hcan) (by decide)
  case rts =>
    by_cases hcan : s.CanPop 2
    · exact execCase_of_frame (exec_rts hcan) ((frame_setSp _).setPc _)
    · exact .underflow ((rtsReturnsPastThePoppedAddress s).2 hcan) (by decide)
  case rti =>
    by_cases hcan : s.CanPop 3
    · obtain ⟨t, hexec, -, -, -, hframe⟩ := (rtiRestoresStatusAndProgramCounter s).1 hcan
      exact execCase_of_frame hexec hframe
    · exact .underflow ((rtiRestoresStatusAndProgramCounter s).2 hcan) (by decide)
  all_goals exact absurd rfl huses

/-- An instruction that completes leaves alone what its mnemonic does not write. -/
theorem frame_of_exec {i : Instr} {s t : State} (h : exec i s = .next t) :
    Frame (writtenRegs i.mnemonic i.mode) (writtenFlags i.mnemonic) (writtenAddrs i.mnemonic i.mode s) s
      (t.setStatus s.status) := by
  cases exec_cases i s with
  | next u hexec hframe =>
    rw [hexec] at h
    cases h
    exact hframe
  | overflow hexec _ | underflow hexec _ =>
    rw [hexec] at h
    cases h

/-- Settles O13 (R180, R181): a step faults on a byte without a row or as its instruction does, whose opcode is at PC. -/
theorem stepFaultsAreUnknownOpcodesAndStackLimits : Obligations.StepFaultsAreUnknownOpcodesAndStackLimits := by
  intro s f h
  rcases step_cases s with ⟨_, -, hrefused⟩ | ⟨-, hnone, hfault⟩ | ⟨-, e, hentry, hexec⟩
  · rw [hrefused] at h
    cases h
  · rw [hfault] at h
    cases h
    exact .inl ⟨rfl, by simp [hnone]⟩
  · have hop : ((s.setStatus .running).setPc (s.pc + 1#16)).opAddr = s.pc := BitVec.add_sub_cancel _ _
    have hdescriptor : catalog (s.read s.pc) = some e.descriptor := by simp [hentry]
    rw [hexec] at h
    cases exec_cases e.instr ((s.setStatus .running).setPc (s.pc + 1#16)) with
    | next t hnext _ =>
      rw [hnext] at h
      cases h
    | overflow hfault hmn =>
      rw [hfault, hop] at h
      cases h
      exact .inr (.inl ⟨rfl, e.descriptor, hdescriptor, hmn⟩)
    | underflow hfault hmn =>
      rw [hfault, hop] at h
      cases h
      exact .inr (.inr ⟨rfl, e.descriptor, hdescriptor, hmn⟩)

/-! The mnemonics by what they write, as the spec lists them -/

theorem a_mem_writtenRegs {mn : Mnemonic} {m : AddressingMode} (h : .a ∈ writtenRegs mn m) :
    mn ∈ [.lda, .txa, .tya, .adc, .sbc, .and, .ora, .eor, .pla] ∨ (mn ∈ [.asl, .lsr, .rol, .ror] ∧ m = .accumulator) := by
  cases mn <;> simp_all [writtenRegs]

theorem x_mem_writtenRegs {mn : Mnemonic} {m : AddressingMode} (h : .x ∈ writtenRegs mn m) :
    mn ∈ [.ldx, .tax, .tsx, .inx, .dex] := by
  cases mn <;> simp_all [writtenRegs]

theorem y_mem_writtenRegs {mn : Mnemonic} {m : AddressingMode} (h : .y ∈ writtenRegs mn m) :
    mn ∈ [.ldy, .tay, .iny, .dey] := by
  cases mn <;> simp_all [writtenRegs]

theorem s_mem_writtenRegs {mn : Mnemonic} {m : AddressingMode} (h : .s ∈ writtenRegs mn m) :
    mn ∈ [.txs, .pha, .php, .jsr, .pla, .plp, .rts, .rti] := by
  cases mn <;> simp_all [writtenRegs]

/-- Settles O46 (R19 to R22): a register outside an instruction's frame keeps its value. -/
theorem registersChangeOnlyByTheirWriters : Obligations.RegistersChangeOnlyByTheirWriters := by
  intro i s t h
  obtain ⟨hregs, -⟩ := frame_of_exec h
  exact ⟨fun hne => a_mem_writtenRegs (not_imp_comm.1 (hregs .a) hne),
    fun hne => x_mem_writtenRegs (not_imp_comm.1 (hregs .x) hne),
    fun hne => y_mem_writtenRegs (not_imp_comm.1 (hregs .y) hne),
    fun hne => s_mem_writtenRegs (not_imp_comm.1 (hregs .s) hne)⟩

section writtenFlags
variable {mn : Mnemonic}

theorem carry_mem_writtenFlags (h : .carry ∈ writtenFlags mn) :
    mn ∈ [.adc, .sbc, .asl, .lsr, .rol, .ror, .cmp, .cpx, .cpy, .sec, .clc, .plp, .rti] := by
  revert h
  cases mn <;> decide

theorem zero_or_negative_mem_writtenFlags (h : .zero ∈ writtenFlags mn ∨ .negative ∈ writtenFlags mn) :
    mn ∈ [.lda, .ldx, .ldy, .tax, .tay, .txa, .tya, .tsx, .adc, .sbc, .and, .ora, .eor, .asl, .lsr, .rol, .ror, .cmp,
      .cpx, .cpy, .inc, .inx, .iny, .dec, .dex, .dey, .bit, .pla, .plp, .rti] := by
  revert h
  cases mn <;> decide

theorem interruptDisable_mem_writtenFlags (h : .interruptDisable ∈ writtenFlags mn) : mn ∈ [.sei, .cli, .plp, .rti] := by
  revert h
  cases mn <;> decide

theorem decimal_mem_writtenFlags (h : .decimal ∈ writtenFlags mn) : mn ∈ [.sed, .cld, .plp, .rti] := by
  revert h
  cases mn <;> decide

theorem overflow_mem_writtenFlags (h : .overflow ∈ writtenFlags mn) : mn ∈ [.adc, .sbc, .bit, .clv, .plp, .rti] := by
  revert h
  cases mn <;> decide

theorem one_mem_writtenFlags (h : .one ∈ writtenFlags mn) : mn ∈ [.plp, .rti] := by
  revert h
  cases mn <;> decide

theorem brk_mem_writtenFlags (h : .brk ∈ writtenFlags mn) : mn ∈ [.plp, .rti] := by
  revert h
  cases mn <;> decide

end writtenFlags

/-- 30_encoding.md R74: the rule of a mnemonic that resolves no mode does not look at the one it is given. -/
theorem rule_mode_irrelevant {mn : Mnemonic} (huses : usesMode mn = false) (m m' : AddressingMode) (len : Nat)
    (s : State) : hardware.rule mn m len s = hardware.rule mn m' len s := by
  cases mn <;> simp_all [usesMode, Params.rule]

/-- 30_encoding.md R77, R78: variants of one mnemonic whose rule resolves no mode do the same. -/
theorem exec_congr_mnemonic {i j : Instr} (s : State) (hmn : i.mnemonic = j.mnemonic)
    (huses : usesMode j.mnemonic = false) : exec i s = exec j s := by
  rw [exec_eq_rule, exec_eq_rule, length_eq_fixedLength i (by rw [hmn, huses]), length_eq_fixedLength j huses, hmn,
    rule_mode_irrelevant huses i.mode j.mode]

/-- R168, R169: what PLP and RTI leave in P is a popped byte with B cleared. -/
theorem brk_clear_of_pull {i : Instr} {s t : State} (hmn : i.mnemonic ∈ [.plp, .rti]) (h : exec i s = .next t) :
    getFlag t.p .brk = false := by
  obtain hplp | hrti : i.mnemonic = .plp ∨ i.mnemonic = .rti := by simpa using hmn
  · rw [exec_congr_mnemonic (j := .plp) s hplp rfl] at h
    by_cases hsp : s.sp = 0xFF#8
    · cases h.symm.trans ((pullsReadAboveTheStackPointer s).2.2 hsp).2
    · cases h.symm.trans (exec_plp (canPop_one.2 hsp))
      simp
  · rw [exec_congr_mnemonic (j := .rti) s hrti rfl] at h
    by_cases hcan : s.CanPop 3
    · obtain ⟨u, hexec, hp, -⟩ := (rtiRestoresStatusAndProgramCounter s).1 hcan
      cases h.symm.trans hexec
      simp [hp]
    · cases h.symm.trans ((rtiRestoresStatusAndProgramCounter s).2 hcan)

/-- Settles O47 (R27 to R34): a flag outside an instruction's frame keeps its value, and B is only ever cleared. -/
theorem flagsChangeOnlyByTheirWriters : Obligations.FlagsChangeOnlyByTheirWriters := by
  intro i s t h changed
  obtain ⟨-, hflags, -⟩ := frame_of_exec h
  have written {f : Flag} (hchanged : changed f) : f ∈ writtenFlags i.mnemonic := not_imp_comm.1 (hflags f) hchanged
  refine ⟨fun hc => carry_mem_writtenFlags (written hc),
    fun hzn => zero_or_negative_mem_writtenFlags (hzn.imp written written),
    fun hi => interruptDisable_mem_writtenFlags (written hi), fun hd => decimal_mem_writtenFlags (written hd),
    fun hv => overflow_mem_writtenFlags (written hv), fun hone => one_mem_writtenFlags (written hone), fun hbrk => ?_⟩
  have hmn := brk_mem_writtenFlags (written hbrk)
  exact ⟨hmn, brk_clear_of_pull hmn h⟩

/-- 20_memory.md section 4: where a mnemonic stores. -/
theorem mem_writtenAddrs {mn : Mnemonic} {m : AddressingMode} {s : State} {a : Word} (h : a ∈ writtenAddrs mn m s) :
    (mn ∈ [.sta, .stx, .sty, .asl, .lsr, .rol, .ror, .inc, .dec] ∧ hardware.resolve m s = .ok a) ∨
    (mn ∈ [.pha, .php] ∧ a = stackAddr s.sp) ∨
    (mn = .jsr ∧ (a = stackAddr s.sp ∨ a = stackAddr (s.sp - 1#8))) := by
  cases mn
  case sta | stx | sty | asl | lsr | rol | ror | inc | dec =>
    have had : a ∈ (hardware.resolve m s).toOption.toList := h
    cases hresolve : hardware.resolve m s with
    | error f => simp [hresolve, Except.toOption] at had
    | ok ad =>
      obtain rfl : a = ad := by simpa [hresolve, Except.toOption] using had
      simp
  case pha | php => simpa [writtenAddrs] using h
  case jsr => simpa [writtenAddrs] using h
  all_goals cases h

/-- R108, R163: a push that has completed began at an S other than 0x00, and two of them at one other than 0x01 too. -/
theorem canPush_of_exec {i : Instr} {s t : State} (h : exec i s = .next t) :
    (i.mnemonic ∈ [.pha, .php] → s.CanPush 1) ∧ (i.mnemonic = .jsr → s.CanPush 2) := by
  refine ⟨fun hmn => canPush_one.2 fun hzero => ?push, fun hjsr => not_not.1 fun hcan => ?jsr⟩
  case push =>
    obtain ⟨hpha, hphp⟩ := (pushesStoreAtTheStackPointer s).2.2 hzero
    obtain hmn | hmn : i.mnemonic = .pha ∨ i.mnemonic = .php := by simpa using hmn
    · cases (exec_congr_mnemonic (j := .pha) s hmn rfl).symm.trans h |>.symm.trans hpha
    · cases (exec_congr_mnemonic (j := .php) s hmn rfl).symm.trans h |>.symm.trans hphp
  case jsr =>
    have hfault := (jsrPushesItsLastByteAddress s).2 hcan
    cases (exec_congr_mnemonic (j := .jsr) s hjsr rfl).symm.trans h |>.symm.trans hfault

/-- Settles O48 (R53 to R55): a byte outside an instruction's frame keeps its value, and a push that completes names a byte
of the stack page other than its first. -/
theorem memoryChangesOnlyWhereTheRulesStore : Obligations.MemoryChangesOnlyWhereTheRulesStore := by
  intro i s t a h hchanged
  obtain ⟨-, -, hbytes, -⟩ := frame_of_exec h
  obtain ⟨hone, htwo⟩ := canPush_of_exec h
  rcases mem_writtenAddrs (not_imp_comm.1 (hbytes a) hchanged) with hstore | ⟨hmn, rfl⟩ | ⟨hmn, ha⟩
  · exact .inl hstore
  · exact .inr ⟨.inl ⟨hmn, rfl⟩, stackAddr_bounds (canPush_one.1 (hone hmn))⟩
  · have hsp := canPush_two.1 (htwo hmn)
    refine .inr ⟨.inr ⟨hmn, ha⟩, ?_⟩
    rcases ha with rfl | rfl <;> exact stackAddr_bounds (by bv_omega)

end Sys2Proof.Machine

/-! PROOFS. The flags that gate nothing (10_state.md R29 to R32, decisions D6 and D12): two states that differ in such a
flag go through every instruction but PHP side by side. -/

namespace Sys2Proof.Machine

open Sys2Proof

/-- Two status bytes that differ in the flag `f` at most. -/
def FlagsAgreeBut (f : Flag) (p q : Byte) : Prop := ∀ g, g ≠ f → getFlag q g = getFlag p g

/-- Two states that differ in the flag `f` at most. -/
def StatesAgreeBut (f : Flag) (s t : State) : Prop := ∃ q, t = s.setP q ∧ FlagsAgreeBut f s.p q

/-- Two computations that fail with the same fault or succeed with related results. -/
def Related {α : Type} (R : α → α → Prop) : Except Fault α → Except Fault α → Prop
  | .ok a, .ok b => R a b
  | .error e, .error e' => e = e'
  | _, _ => False

theorem related_bind {α : Type} {R : α → α → Prop} {Q : State → State → Prop} {x y : Except Fault α}
    {f g : α → Except Fault State} (hx : Related R x y) (hf : ∀ a b, R a b → Related Q (f a) (g b)) :
    Related Q (x >>= f) (y >>= g) := by
  cases x <;> cases y
  case ok.ok a b => exact hf a b hx
  case error.error => exact hx
  case ok.error | error.ok => exact hx.elim

/-- Computations that begin alike. -/
theorem related_bind_same {α : Type} {Q : State → State → Prop} {x y : Except Fault α} {f g : α → Except Fault State}
    (hx : y = x) (hf : ∀ a, Related Q (f a) (g a)) : Related Q (x >>= f) (y >>= g) := by
  subst hx
  cases y with
  | error e => exact rfl
  | ok a => exact hf a

/-- Two results of an operation, the byte and the new P, that differ in the flag `f` of P at most. -/
def ResultsAgreeBut (f : Flag) (r r' : Byte × Byte) : Prop := r'.1 = r.1 ∧ FlagsAgreeBut f r.2 r'.2

section flags
variable {f : Flag} {p q : Byte}

theorem FlagsAgreeBut.setFlag (h : FlagsAgreeBut f p q) (k : Flag) (b : Bool) :
    FlagsAgreeBut f (setFlag p k b) (setFlag q k b) := by
  intro g hg
  rw [get_setFlag, get_setFlag, h g hg]

theorem FlagsAgreeBut.setZN (h : FlagsAgreeBut f p q) (v : Byte) : FlagsAgreeBut f (setZN p v) (setZN q v) :=
  (h.setFlag _ _).setFlag _ _

/-- D6, D12: the flags an instruction consults are none of the four that gate nothing. -/
theorem FlagsAgreeBut.consulted (h : FlagsAgreeBut f p q) (hinert : f ∈ [.interruptDisable, .decimal, .brk, .one])
    {g : Flag} (hg : g ∈ [.carry, .zero, .overflow, .negative]) : getFlag q g = getFlag p g := by
  refine h g ?_
  rintro rfl
  revert hinert hg
  cases g <;> decide

/-! What each operation makes of P -/

section consulted
variable (h : FlagsAgreeBut f p q) (hcarry : getFlag q .carry = getFlag p .carry)
include h

theorem logicResult_agree (op : Byte → Byte → Byte) (a v : Byte) :
    ResultsAgreeBut f (logicResult op p a v) (logicResult op q a v) := ⟨rfl, h.setZN _⟩

theorem incResult_agree (v : Byte) : ResultsAgreeBut f (incResult p v) (incResult q v) := ⟨rfl, h.setZN _⟩

theorem decResult_agree (v : Byte) : ResultsAgreeBut f (decResult p v) (decResult q v) := ⟨rfl, h.setZN _⟩

theorem aslResult_agree (v : Byte) : ResultsAgreeBut f (aslResult p v) (aslResult q v) :=
  ⟨rfl, (h.setFlag _ _).setZN _⟩

theorem lsrResult_agree (v : Byte) : ResultsAgreeBut f (lsrResult p v) (lsrResult q v) :=
  ⟨rfl, (h.setFlag _ _).setZN _⟩

theorem compareFlags_agree (ps : Params) (reg v : Byte) :
    FlagsAgreeBut f (ps.compareFlags p reg v) (ps.compareFlags q reg v) :=
  ((h.setFlag _ _).setFlag _ _).setFlag _ _

theorem bitFlags_agree (a v : Byte) : FlagsAgreeBut f (bitFlags p a v) (bitFlags q a v) :=
  ((h.setFlag _ _).setFlag _ _).setFlag _ _

include hcarry

theorem rolResult_agree (v : Byte) : ResultsAgreeBut f (rolResult p v) (rolResult q v) := by
  simp only [rolResult, hcarry]
  exact ⟨rfl, (h.setFlag _ _).setZN _⟩

theorem rorResult_agree (v : Byte) : ResultsAgreeBut f (rorResult p v) (rorResult q v) := by
  simp only [rorResult, hcarry]
  exact ⟨rfl, (h.setFlag _ _).setZN _⟩

theorem adcResult_agree (ps : Params) (a v : Byte) : ResultsAgreeBut f (ps.adcResult p a v) (ps.adcResult q a v) := by
  simp only [Params.adcResult, hcarry]
  exact ⟨rfl, ((h.setFlag _ _).setFlag _ _).setZN _⟩

theorem sbcResult_agree (ps : Params) (a v : Byte) : ResultsAgreeBut f (ps.sbcResult p a v) (ps.sbcResult q a v) := by
  simp only [Params.sbcResult, hcarry]
  exact ⟨rfl, ((h.setFlag _ _).setFlag _ _).setZN _⟩

end consulted

end flags

section inert
variable {f : Flag} {ps : Params} {m : AddressingMode} {len : Nat} {s t : State} {q : Byte}

/-! What reads the machine does not see P -/

theorem resolve_setP : ps.resolve m (s.setP q) = ps.resolve m s := by
  cases m <;> rfl

theorem readMemoryOperand_setP : ps.readMemoryOperand m (s.setP q) = ps.readMemoryOperand m s := by
  unfold Params.readMemoryOperand
  rw [resolve_setP]
  rfl

theorem placeOf_setP : ps.placeOf m (s.setP q) = ps.placeOf m s := by
  cases m <;> rfl

/-! What changes the machine keeps two such states side by side -/

theorem related_advance (h : StatesAgreeBut f s t) :
    Related (StatesAgreeBut f) (ps.advance len s) (ps.advance len t) := by
  obtain ⟨q, rfl, hq⟩ := h
  exact related_bind_same rfl fun _ => ⟨q, rfl, hq⟩

theorem related_push (v : Byte) (h : StatesAgreeBut f s t) : Related (StatesAgreeBut f) (s.push v) (t.push v) := by
  obtain ⟨q, rfl, hq⟩ := h
  rw [push_eq, push_eq, setP_sp]
  split
  · exact rfl
  · exact ⟨q, rfl, hq⟩

theorem related_push16 (v : Word) (h : StatesAgreeBut f s t) : Related (StatesAgreeBut f) (s.push16 v) (t.push16 v) :=
  related_bind (related_push _ h) fun _ _ => related_push _

theorem related_pop (h : StatesAgreeBut f s t) :
    Related (fun a b => b.1 = a.1 ∧ StatesAgreeBut f a.2 b.2) s.pop t.pop := by
  obtain ⟨q, rfl, hq⟩ := h
  rw [pop_eq, pop_eq, setP_sp]
  split
  · exact rfl
  · exact ⟨rfl, q, rfl, hq⟩

theorem related_pop16 (h : StatesAgreeBut f s t) :
    Related (fun a b => b.1 = a.1 ∧ StatesAgreeBut f a.2 b.2) s.pop16 t.pop16 := by
  obtain ⟨q, rfl, hq⟩ := h
  rw [pop16_eq, pop16_eq, setP_sp]
  split
  · exact rfl
  · exact ⟨rfl, q, rfl, hq⟩

/-! The rules of 41 to 48, from a state and from the state with a P that agrees with its own but for `f` -/

theorem related_accumulate {op : Byte → Byte → Byte → Byte × Byte}
    (hop : ∀ v, ResultsAgreeBut f (op s.p s.a v) (op q s.a v)) :
    Related (StatesAgreeBut f) (ps.accumulate op m len s) (ps.accumulate op m len (s.setP q)) :=
  related_bind_same readMemoryOperand_setP fun v => by
    obtain ⟨hresult, hflags⟩ := hop v
    exact related_advance ⟨_, by rw [setP_p, setP_a, hresult]; rfl, hflags⟩

theorem related_modifyAndAdvance {op : Byte → Byte → Byte × Byte} (hop : ∀ v, ResultsAgreeBut f (op s.p v) (op q v)) :
    Related (StatesAgreeBut f) (ps.modifyAndAdvance op m len s) (ps.modifyAndAdvance op m len (s.setP q)) := by
  refine related_bind (related_bind_same placeOf_setP fun place => ?place) fun _ _ => related_advance
  obtain ⟨hresult, hflags⟩ := hop (s.readPlace place)
  have hread : (s.setP q).readPlace place = s.readPlace place := by
    cases place <;> rfl
  refine ⟨(op q (s.readPlace place)).2, ?_, by cases place <;> exact hflags⟩
  rw [setP_p, hread, hresult]
  cases place <;> rfl

theorem related_compareWith {reg : Byte} (hq : FlagsAgreeBut f s.p q) :
    Related (StatesAgreeBut f) (ps.compareWith reg m len s) (ps.compareWith reg m len (s.setP q)) :=
  related_bind_same readMemoryOperand_setP fun v => related_advance ⟨_, rfl, compareFlags_agree hq ps reg v⟩

theorem related_ruleBit (hq : FlagsAgreeBut f s.p q) :
    Related (StatesAgreeBut f) (ps.ruleBit m len s) (ps.ruleBit m len (s.setP q)) :=
  related_bind_same readMemoryOperand_setP fun v => related_advance ⟨_, rfl, bitFlags_agree hq s.a v⟩

theorem related_loadInto {set : State → Byte → State} (hset : ∀ v, set (s.setP q) v = (set s v).setP q)
    (hq : FlagsAgreeBut f s.p q) :
    Related (StatesAgreeBut f) (ps.loadInto set m len s) (ps.loadInto set m len (s.setP q)) :=
  related_bind_same readMemoryOperand_setP fun v => related_advance ⟨_, by rw [hset]; rfl, hq.setZN v⟩

theorem related_storeFrom {v : Byte} (hq : FlagsAgreeBut f s.p q) :
    Related (StatesAgreeBut f) (ps.storeFrom v m len s) (ps.storeFrom v m len (s.setP q)) :=
  related_bind_same resolve_setP fun _ => related_advance ⟨q, rfl, hq⟩

theorem related_ruleJmp (hq : FlagsAgreeBut f s.p q) :
    Related (StatesAgreeBut f) (ps.ruleJmp m s) (ps.ruleJmp m (s.setP q)) :=
  related_bind_same resolve_setP fun _ => ⟨q, rfl, hq⟩

theorem related_branch {cond cond' : Bool} (hcond : cond' = cond) (hq : FlagsAgreeBut f s.p q) :
    Related (StatesAgreeBut f) (ps.branch cond len s) (ps.branch cond' len (s.setP q)) := by
  subst hcond
  cases cond' with
  | false => exact related_advance ⟨q, rfl, hq⟩
  | true => exact related_ruleJmp hq (m := .relative)

theorem related_ruleJsr (hq : FlagsAgreeBut f s.p q) :
    Related (StatesAgreeBut f) (ps.ruleJsr len s) (ps.ruleJsr len (s.setP q)) :=
  related_bind_same rfl fun ret => related_bind (related_push16 ret ⟨q, rfl, hq⟩) fun _ _ h => by
    obtain ⟨q', rfl, hq'⟩ := h
    exact related_ruleJmp hq'

theorem related_ruleRts (hq : FlagsAgreeBut f s.p q) :
    Related (StatesAgreeBut f) (ps.ruleRts s) (ps.ruleRts (s.setP q)) :=
  related_bind (related_pop16 ⟨q, rfl, hq⟩) fun _ _ h => by
    obtain ⟨hret, q', ht, hq'⟩ := h
    exact related_bind_same (by rw [hret]; rfl) fun _ => ⟨q', by rw [ht]; rfl, hq'⟩

theorem related_rulePla (hq : FlagsAgreeBut f s.p q) :
    Related (StatesAgreeBut f) (ps.rulePla len s) (ps.rulePla len (s.setP q)) :=
  related_bind (related_pop ⟨q, rfl, hq⟩) fun _ _ h => by
    obtain ⟨hv, q', ht, hq'⟩ := h
    exact related_advance ⟨_, by rw [ht, hv]; rfl, hq'.setZN _⟩

/-- R168: after the pull the two are the same state. -/
theorem related_rulePlp (hq : FlagsAgreeBut f s.p q) :
    Related (StatesAgreeBut f) (ps.rulePlp len s) (ps.rulePlp len (s.setP q)) :=
  related_bind (related_pop ⟨q, rfl, hq⟩) fun _ _ h => by
    obtain ⟨hv, q', ht, -⟩ := h
    exact related_advance ⟨_, by rw [ht, hv]; rfl, fun _ _ => rfl⟩

/-- R169: the same for RTI, whose further pops no longer see a difference. -/
theorem related_ruleRti : Related (StatesAgreeBut f) (ruleRti s) (ruleRti (s.setP q)) := by
  rw [ruleRti_eq, ruleRti_eq, setP_sp]
  split
  · exact rfl
  · exact ⟨_, rfl, fun _ _ => rfl⟩

theorem related_ruleBrk (hq : FlagsAgreeBut f s.p q) :
    Related (StatesAgreeBut f) (ps.ruleBrk len s) (ps.ruleBrk len (s.setP q)) :=
  related_bind (related_advance ⟨q, rfl, hq⟩) fun _ _ h => by
    obtain ⟨q', ht, hq'⟩ := h
    exact ⟨q', by rw [ht]; rfl, hq'⟩

/-- D6, D12: whatever instruction but PHP executes, it does the same whichever value one of the four flags has. -/
theorem related_rule {mn : Mnemonic} (hphp : mn ≠ .php) (hinert : f ∈ [.interruptDisable, .decimal, .brk, .one])
    (hq : FlagsAgreeBut f s.p q) : Related (StatesAgreeBut f) (ps.rule mn m len s) (ps.rule mn m len (s.setP q)) := by
  have hcarry : getFlag q .carry = getFlag s.p .carry := hq.consulted hinert (by decide)
  have hzero : getFlag q .zero = getFlag s.p .zero := hq.consulted hinert (by decide)
  have hoverflow : getFlag q .overflow = getFlag s.p .overflow := hq.consulted hinert (by decide)
  have hnegative : getFlag q .negative = getFlag s.p .negative := hq.consulted hinert (by decide)
  cases mn
  case lda | ldx | ldy => exact related_loadInto (fun _ => rfl) hq
  case sta | stx | sty => exact related_storeFrom hq
  case adc => exact related_accumulate (adcResult_agree hq hcarry ps s.a)
  case sbc => exact related_accumulate (sbcResult_agree hq hcarry ps s.a)
  case and | ora | eor => exact related_accumulate (logicResult_agree hq _ s.a)
  case asl => exact related_modifyAndAdvance (aslResult_agree hq)
  case lsr => exact related_modifyAndAdvance (lsrResult_agree hq)
  case rol => exact related_modifyAndAdvance (rolResult_agree hq hcarry)
  case ror => exact related_modifyAndAdvance (rorResult_agree hq hcarry)
  case inc => exact related_modifyAndAdvance (incResult_agree hq)
  case dec => exact related_modifyAndAdvance (decResult_agree hq)
  case cmp | cpx | cpy => exact related_compareWith hq
  case bit => exact related_ruleBit hq
  case bcc | bcs => exact related_branch (by rw [setP_p, hcarry]) hq
  case beq | bne => exact related_branch (by rw [setP_p, hzero]) hq
  case bvc | bvs => exact related_branch (by rw [setP_p, hoverflow]) hq
  case bmi | bpl => exact related_branch (by rw [setP_p, hnegative]) hq
  case jmp => exact related_ruleJmp hq
  case jsr => exact related_ruleJsr hq
  case rts => exact related_ruleRts hq
  case pha => exact related_bind (related_push s.a ⟨q, rfl, hq⟩) fun _ _ => related_advance
  case pla => exact related_rulePla hq
  case plp => exact related_rulePlp hq
  case rti => exact related_ruleRti
  case tax | tay | txa | tya | tsx | inx | iny | dex | dey => exact related_advance ⟨_, rfl, hq.setZN _⟩
  case sec | clc | sed | cld | sei | cli | clv => exact related_advance ⟨_, rfl, hq.setFlag _ _⟩
  case txs | nop => exact related_advance ⟨q, rfl, hq⟩
  case brk => exact related_ruleBrk hq
  case php => exact absurd rfl hphp

theorem agreeButFlag_of_related {r r' : Except Fault State} (h : Related (StatesAgreeBut f) r r') :
    AgreeButFlag f (finish r) (finish r') := by
  cases r <;> cases r'
  case ok.ok s t =>
    obtain ⟨q, rfl, hq⟩ := h
    exact ⟨rfl, Frame.refl.setP fun g hg => hq g (List.ne_of_not_mem_cons hg)⟩
  case error.error => exact h
  case ok.error | error.ok => exact h.elim

end inert

/-- 30_encoding.md R77: PHP has one variant. -/
theorem eq_php_of_mnemonic {i : Instr} (h : i.mnemonic = .php) : i = .php := by
  cases i
  case php => rfl
  all_goals cases h

/-- Settles O49 (D6, D12): PHP aside, the rules keep two states that differ in an inert flag side by side. -/
theorem inertFlagsAreReadByPhpOnly : Obligations.InertFlagsAreReadByPhpOnly := by
  intro i s f b hphp hinert
  have hq : FlagsAgreeBut f s.p (setFlag s.p f b) := fun g hg => by rw [get_setFlag, if_neg hg.symm]
  rw [exec_eq_rule, exec_eq_rule]
  exact agreeButFlag_of_related (related_rule (mt eq_php_of_mnemonic hphp) hinert hq)

end Sys2Proof.Machine

/-! PROOFS. The memory array over many writes (20_memory.md sections 2 and 6) and its canonical form (10_state.md R37). -/

namespace Sys2Proof.Machine

open Sys2Proof

/-- Settles O52 (R47, R58): the last write of the list answers where it is at the address, and the list before it where it
is not. -/
theorem readsGiveTheLastByteWritten : Obligations.ReadsGiveTheLastByteWritten := by
  intro writes a
  induction writes using List.reverseRecOn with
  | nil => rfl
  | append_singleton writes w ih =>
    rw [List.foldl_append, List.foldl_cons, List.foldl_nil, state_read_write, List.reverse_append]
    by_cases hw : w.1 = a
    · simp [hw]
    · simp [hw, ih]

section canonical
variable {m n : Memory} {lo a k : Nat} {v : Byte}

theorem wfFrom_cons :
    Memory.wfFrom lo ((k, v) :: m) = true ↔ lo ≤ k ∧ k < 65536 ∧ v ≠ Memory.unwritten ∧ Memory.wfFrom (k + 1) m = true := by
  simp [Memory.wfFrom, and_assoc]

/-- Below its first address a canonical list holds nothing. -/
theorem readAt_of_lt (h : Memory.wfFrom lo m = true) (ha : a < lo) : m.readAt a = Memory.unwritten := by
  induction m generalizing lo with
  | nil => rfl
  | cons c m ih =>
    obtain ⟨k, v⟩ := c
    obtain ⟨hlo, -, -, hrest⟩ := wfFrom_cons.1 h
    rw [Memory.readAt, if_neg (by omega), ih hrest (by omega)]

/-- The first entry of a canonical list is no more than another canonical list with the same bytes has at its address. -/
theorem first_le_of_readAt_eq {l : Nat} {w : Byte} (hm : Memory.wfFrom lo ((k, v) :: m) = true)
    (hn : Memory.wfFrom lo ((l, w) :: n) = true)
    (h : ∀ a < 65536, Memory.readAt ((k, v) :: m) a = Memory.readAt ((l, w) :: n) a) : l ≤ k := by
  obtain ⟨-, hk, hv, -⟩ := wfFrom_cons.1 hm
  obtain ⟨-, hl, hw, hrest⟩ := wfFrom_cons.1 hn
  refine Nat.not_lt.1 fun hlt => hv ?_
  have hread : Memory.readAt ((l, w) :: n) k = Memory.unwritten :=
    readAt_of_lt (wfFrom_cons.2 ⟨le_rfl, hl, hw, hrest⟩) hlt
  have hfirst : Memory.readAt ((k, v) :: m) k = v := if_pos rfl
  rw [← hfirst, h k hk, hread]

/-- From one address on, two canonical lists with the same bytes are the same list. -/
theorem eq_of_readAt_eq (hm : Memory.wfFrom lo m = true) (hn : Memory.wfFrom lo n = true)
    (h : ∀ a < 65536, m.readAt a = n.readAt a) : m = n := by
  induction m generalizing n lo with
  | nil =>
    cases n with
    | nil => rfl
    | cons c n =>
      obtain ⟨l, w⟩ := c
      obtain ⟨-, hl, hw, -⟩ := wfFrom_cons.1 hn
      exact absurd (h l hl).symm (by simpa [Memory.readAt] using hw)
  | cons c m ih =>
    obtain ⟨k, v⟩ := c
    obtain ⟨-, hk, hv, hmrest⟩ := wfFrom_cons.1 hm
    cases n with
    | nil => exact absurd (h k hk) (by simpa [Memory.readAt] using hv)
    | cons d n =>
      obtain ⟨l, w⟩ := d
      obtain rfl : k = l :=
        le_antisymm (first_le_of_readAt_eq hn hm fun a ha => (h a ha).symm) (first_le_of_readAt_eq hm hn h)
      obtain ⟨-, -, -, hnrest⟩ := wfFrom_cons.1 hn
      obtain rfl : v = w := by simpa [Memory.readAt] using h k hk
      have hrest : ∀ a < 65536, Memory.readAt m a = Memory.readAt n a := by
        intro a ha
        by_cases hak : a = k
        · rw [hak, readAt_of_lt hmrest (Nat.lt_succ_self k), readAt_of_lt hnrest (Nat.lt_succ_self k)]
        · simpa [Memory.readAt, Ne.symm hak] using h a ha
      rw [ih hmrest hnrest hrest]

end canonical

/-- Settles O53 (R37): the bytes decide the list from address 0 on. -/
theorem canonicalMemoriesWithEqualBytesAreEqual : Obligations.CanonicalMemoriesWithEqualBytesAreEqual := by
  intro m n hm hn h
  refine eq_of_readAt_eq hm hn fun a ha => ?_
  have haddr : (BitVec.ofNat 16 a).toNat = a := Nat.mod_eq_of_lt ha
  simpa only [Memory.read, haddr] using h (BitVec.ofNat 16 a)

end Sys2Proof.Machine

/-! PROOFS. The host's commands (00_scope.md R6, 10_state.md R41 to R43, 70_reset_and_hazards.md). -/

namespace Sys2Proof.Machine

open Sys2Proof

/-- Settles O54 (R197 to R199, R44): the fields of `new` and of `reset`, read off; the vector of zeroed memory is 0x0000. -/
theorem newAndResetLeaveTheStatedState : Obligations.NewAndResetLeaveTheStatedState :=
  ⟨⟨rfl, rfl, rfl, rfl, rfl, rfl, fun _ => rfl, rfl, rfl⟩,
    fun _ => ⟨rfl, rfl, rfl, rfl, rfl, rfl, fun _ => rfl, rfl, rfl⟩, rfl⟩

section load
variable {s : State} {bytes : List Byte}

/-- R200, R201: everything a load that fits does. -/
theorem load_ok (h : bytes.length ≤ 0x8000) :
    s.load bytes =
      .ok (s.setMem (((s.mem.writeBytes 0x8000#16 bytes).write 0xFFFC#16 0x00#8).write 0xFFFD#16 0x80#8)) :=
  if_neg (Nat.not_lt.2 h)

/-- R202, D14. -/
theorem load_error (h : 0x8000 < bytes.length) : s.load bytes = .error (.loadTooLarge bytes.length) :=
  if_pos h

/-- R6: a core that is neither executing nor faulted takes every command. -/
theorem command_idle (e : Engine) (fuel : Nat) (c : Command) (h : s.status = .idle) :
    e.command fuel (.live s) c = e.commandIdle fuel s c := by
  simp [Engine.command, Session.status, h]

end load

/-- Settles O55 (R200, R201, D21): the image is written at consecutive addresses from 0x8000, and the vector after it. -/
theorem loadInstallsTheImage : Obligations.LoadInstallsTheImage := by
  intro s bytes hlength
  refine ⟨_, load_ok hlength, rfl, by simp [read_write], by simp [read_write], fun a hlow hhigh => ?_⟩
  have hfits : (0x8000#16).toNat + bytes.length ≤ 65536 := by
    simp only [BitVec.toNat_ofNat]
    omega
  rw [state_read_setMem, read_write, if_neg hhigh.symm, read_write, if_neg hlow.symm, read_writeBytes _ _ _ _ hfits]
  rfl

/-- Settles O56 (R202, D14): the length check precedes every write, and both commands give its fault back. -/
theorem oversizedLoadChangesNothing : Obligations.OversizedLoadChangesNothing := by
  intro s bytes fuel hlength hidle
  have hload : s.load bytes = .error (.loadTooLarge bytes.length) := load_error hlength
  refine ⟨hload, ?load, ?loadAndRun⟩
  case load | loadAndRun => rw [command_idle engine fuel _ hidle, Engine.commandIdle, hload]; rfl

/-- Settles O57 (R203, D21): the reset after the load takes PC from the vector the load has written. -/
theorem loadAndRunStartsAtTheImage : Obligations.LoadAndRunStartsAtTheImage := by
  intro s bytes fuel hlength hidle
  obtain ⟨t, hload, ht, hlow, hhigh, -⟩ := loadInstallsTheImage s bytes hlength
  obtain ⟨ha, hx, hy, hsp, hp, hpc, -⟩ := newAndResetLeaveTheStatedState.2.1 t
  refine ⟨t, hload, ?run, ?pc, ha, hx, hp, hsp, ?y⟩
  case run => rw [command_idle engine fuel _ hidle, Engine.commandIdle, hload]
  case pc =>
    rw [hpc, hlow, hhigh]
    rfl
  case y => rw [hy, ht, setMem_y]

/-! The runner (40_execution_loop.md R95, D17) -/

/-- R95: the loop ends in a halt only at status Idle. -/
theorem idle_of_runLoop_halted {e : Engine} {n : Nat} {s t : State} (h : e.runLoop n s = .halted t) : t.status = .idle := by
  induction n generalizing s with
  | zero => cases h
  | succ n ih =>
    rw [Engine.runLoop] at h
    cases hstep : e.step s with
    | next u =>
      simp only [hstep] at h
      split at h
      case isTrue hidle =>
        cases h
        exact hidle
      case isFalse => exact ih h
    | fault f => simp [hstep] at h
    | refused r => simp [hstep] at h

/-- D17: a loop that ended before its fuel did goes the same way with more. -/
theorem runLoop_add {e : Engine} {n : Nat} {s : State} (k : Nat) (h : ∀ t, e.runLoop n s ≠ .outOfFuel t) :
    e.runLoop (n + k) s = e.runLoop n s := by
  induction n generalizing s with
  | zero => exact absurd rfl (h s)
  | succ n ih =>
    rw [Nat.succ_add, Engine.runLoop, Engine.runLoop]
    rw [Engine.runLoop] at h
    cases hstep : e.step s with
    | next u =>
      simp only [hstep] at h ⊢
      split
      case isTrue => rfl
      case isFalse hidle => exact ih (by simpa [hidle] using h)
    | fault f => rfl
    | refused r => rfl

/-- Settles O58 (R95, D17): neither a halt nor a fault is running out of fuel. -/
theorem moreFuelNeverChangesAnEndedRun : Obligations.MoreFuelNeverChangesAnEndedRun := by
  refine fun n k s => ⟨fun t h => ⟨?halted, idle_of_runLoop_halted h⟩, fun f h => ?fault⟩
  case halted | fault => exact (runLoop_add k (by simp [h])).trans h

/-- Settles O59 (R6, R43, R185): the run status decides before the command does. -/
theorem commandsWaitForRunAndEndAtFaults : Obligations.CommandsWaitForRunAndEndAtFaults := by
  refine ⟨fun fuel s c h => ?running, fun fuel f c h => ?faulted, fun fuel f => rfl⟩
  case running => simp [Engine.command, Session.status, h]
  case faulted =>
    cases c
    case new => exact absurd rfl h
    all_goals rfl

/-- R41, D19: an accessor's write is what its read gives back, and the other registers keep their values. -/
theorem readRegister_writeRegister (s : State) (r q : RegisterId) (v : Word) :
    (s.writeRegister v r).readRegister q =
      if q = r then (if r = .pc then v else zext16 (lowByte v)) else s.readRegister q := by
  cases r <;> cases q <;> rfl

/-- Settles O60 (R41, R42, D12, D19): a register write is one field, and a memory write one byte. -/
theorem accessorsStoreWhatTheyAreGiven : Obligations.AccessorsStoreWhatTheyAreGiven := by
  intro s r q v a b w
  refine ⟨readRegister_writeRegister s r q v, ?mem, ?trace, ?status, ?byte, ?register, rfl, rfl⟩
  case mem | trace | status => cases r <;> rfl
  case byte => simp only [state_read_write, eq_comm]
  case register => cases q <;> rfl

end Sys2Proof.Machine
